-- ==== Sys2Proof/Word.lean ====
section
/-! DEFINITION. The two widths of the machine (spec 00_scope.md R5, R7; 10_state.md R11): bytes and 16-bit words. -/

namespace Sys2Proof

/-- 8 bits: every register but `pc` and `sp`, every memory cell, every instruction byte. -/
abbrev Byte := BitVec 8

/-- 16 bits: `pc`, `sp`, the pairs, every address. `+` and `-` wrap modulo 65536 (R7, R11). -/
abbrev Word := BitVec 16

end Sys2Proof
end

