-- ==== Sys2Proof/Machine/AddressMap.lean ====
section
/-! DEFINITION. The address decode of the Address Space (20_memory.md R31 to R33). -/

namespace Sys2Proof.Machine

/-- The nine storage ranges (20_memory.md R31, R33). -/
inductive Region where
  | rom0
  | romx
  | vram
  | eram
  | wram
  | oam
  | io
  | hram
  | iereg
deriving DecidableEq, Repr

/-- The first address of a range (20_memory.md R31). -/
def Region.base : Region → Nat
  | .rom0 => 0x0000
  | .romx => 0x4000
  | .vram => 0x8000
  | .eram => 0xA000
  | .wram => 0xC000
  | .oam => 0xFE00
  | .io => 0xFF00
  | .hram => 0xFF80
  | .iereg => 0xFFFF

/-- The size of a range in bytes (20_memory.md R31). -/
def Region.size : Region → Nat
  | .rom0 => 16384
  | .romx => 16384
  | .vram => 8192
  | .eram => 8192
  | .wram => 8192
  | .oam => 160
  | .io => 128
  | .hram => 127
  | .iereg => 1

/-- The ROM ranges: written by the loader path only (20_memory.md R31, R36). -/
def Region.isRom : Region → Bool
  | .rom0 => true
  | .romx => true
  | .vram => false
  | .eram => false
  | .wram => false
  | .oam => false
  | .io => false
  | .hram => false
  | .iereg => false

/-- `Decode` of 20_memory.md R33: the range and the offset in it, `none` for an unmapped address (R32). -/
def decodeAddress (addr : Word) : Option (Region × Nat) :=
  let n := addr.toNat
  if n ≤ 0x3FFF then some (.rom0, n)
  else if n ≤ 0x7FFF then some (.romx, n - 0x4000)
  else if n ≤ 0x9FFF then some (.vram, n - 0x8000)
  else if n ≤ 0xBFFF then some (.eram, n - 0xA000)
  else if n ≤ 0xDFFF then some (.wram, n - 0xC000)
  else if n ≤ 0xFDFF then none
  else if n ≤ 0xFE9F then some (.oam, n - 0xFE00)
  else if n ≤ 0xFEFF then none
  else if n ≤ 0xFF7F then some (.io, n - 0xFF00)
  else if n ≤ 0xFFFE then some (.hram, n - 0xFF80)
  else some (.iereg, 0)

/-- The address stands behind some storage (20_memory.md R32). -/
def mapped (addr : Word) : Bool := (decodeAddress addr).isSome

/-- `write` stores at the address: it lies in a read/write range (20_memory.md R35). -/
def writable (addr : Word) : Bool :=
  match decodeAddress addr with
  | some (r, _) => !r.isRom
  | none => false

/-- `loadRom` stores at the address: it lies in a ROM range (20_memory.md R36). -/
def loadable (addr : Word) : Bool :=
  match decodeAddress addr with
  | some (r, _) => r.isRom
  | none => false

end Sys2Proof.Machine
end

