-- ==== Sys2Proof/Syntax.lean ====
section
/-! DEFINITION. The instructions, one constructor per row of spec/opcode_table.json (30_encoding.md R59), in the
order of the base opcode. A constructor holds the operand bytes its format has (R56): the 16-bit immediate of
`OP_D16`, the continuation byte of `CB_EXT`, nothing for `OP`. -/

namespace Sys2Proof

/-- The three instruction formats (30_encoding.md R56). -/
inductive Format where
  | op
  | opD16
  | cbExt
deriving DecidableEq, Repr

/-- The four instructions a step can report as `Executed` (40_execution_cycle.md R78). -/
inductive Mnemonic where
  | ldSpD16
  | ldHlD16
  | xorA
  | ldHldA
deriving DecidableEq, Repr

/-- The instructions. `unimplXX` is the base opcode `0xXX` with no defined dispatch case
(44_prefix_and_unimplemented.md R96): it has no operand and is one byte long, whatever the byte is on a full SM83. -/
inductive Instr where
  | unimpl00
  | unimpl01
  | unimpl02
  | unimpl03
  | unimpl04
  | unimpl05
  | unimpl06
  | unimpl07
  | unimpl08
  | unimpl09
  | unimpl0A
  | unimpl0B
  | unimpl0C
  | unimpl0D
  | unimpl0E
  | unimpl0F
  | unimpl10
  | unimpl11
  | unimpl12
  | unimpl13
  | unimpl14
  | unimpl15
  | unimpl16
  | unimpl17
  | unimpl18
  | unimpl19
  | unimpl1A
  | unimpl1B
  | unimpl1C
  | unimpl1D
  | unimpl1E
  | unimpl1F
  | unimpl20
  /-- `0x21`, `LD HL,d16` (41_load_imm16.md R81). -/
  | ldHlD16 (d16 : Word)
  | unimpl22
  | unimpl23
  | unimpl24
  | unimpl25
  | unimpl26
  | unimpl27
  | unimpl28
  | unimpl29
  | unimpl2A
  | unimpl2B
  | unimpl2C
  | unimpl2D
  | unimpl2E
  | unimpl2F
  | unimpl30
  /-- `0x31`, `LD SP,d16` (41_load_imm16.md R80). -/
  | ldSpD16 (d16 : Word)
  /-- `0x32`, `LD (HL-),A` (43_store_hld.md R90). -/
  | ldHldA
  | unimpl33
  | unimpl34
  | unimpl35
  | unimpl36
  | unimpl37
  | unimpl38
  | unimpl39
  | unimpl3A
  | unimpl3B
  | unimpl3C
  | unimpl3D
  | unimpl3E
  | unimpl3F
  | unimpl40
  | unimpl41
  | unimpl42
  | unimpl43
  | unimpl44
  | unimpl45
  | unimpl46
  | unimpl47
  | unimpl48
  | unimpl49
  | unimpl4A
  | unimpl4B
  | unimpl4C
  | unimpl4D
  | unimpl4E
  | unimpl4F
  | unimpl50
  | unimpl51
  | unimpl52
  | unimpl53
  | unimpl54
  | unimpl55
  | unimpl56
  | unimpl57
  | unimpl58
  | unimpl59
  | unimpl5A
  | unimpl5B
  | unimpl5C
  | unimpl5D
  | unimpl5E
  | unimpl5F
  | unimpl60
  | unimpl61
  | unimpl62
  | unimpl63
  | unimpl64
  | unimpl65
  | unimpl66
  | unimpl67
  | unimpl68
  | unimpl69
  | unimpl6A
  | unimpl6B
  | unimpl6C
  | unimpl6D
  | unimpl6E
  | unimpl6F
  | unimpl70
  | unimpl71
  | unimpl72
  | unimpl73
  | unimpl74
  | unimpl75
  | unimpl76
  | unimpl77
  | unimpl78
  | unimpl79
  | unimpl7A
  | unimpl7B
  | unimpl7C
  | unimpl7D
  | unimpl7E
  | unimpl7F
  | unimpl80
  | unimpl81
  | unimpl82
  | unimpl83
  | unimpl84
  | unimpl85
  | unimpl86
  | unimpl87
  | unimpl88
  | unimpl89
  | unimpl8A
  | unimpl8B
  | unimpl8C
  | unimpl8D
  | unimpl8E
  | unimpl8F
  | unimpl90
  | unimpl91
  | unimpl92
  | unimpl93
  | unimpl94
  | unimpl95
  | unimpl96
  | unimpl97
  | unimpl98
  | unimpl99
  | unimpl9A
  | unimpl9B
  | unimpl9C
  | unimpl9D
  | unimpl9E
  | unimpl9F
  | unimplA0
  | unimplA1
  | unimplA2
  | unimplA3
  | unimplA4
  | unimplA5
  | unimplA6
  | unimplA7
  | unimplA8
  | unimplA9
  | unimplAA
  | unimplAB
  | unimplAC
  | unimplAD
  | unimplAE
  /-- `0xAF`, `XOR A` (42_alu_flags.md R86). -/
  | xorA
  | unimplB0
  | unimplB1
  | unimplB2
  | unimplB3
  | unimplB4
  | unimplB5
  | unimplB6
  | unimplB7
  | unimplB8
  | unimplB9
  | unimplBA
  | unimplBB
  | unimplBC
  | unimplBD
  | unimplBE
  | unimplBF
  | unimplC0
  | unimplC1
  | unimplC2
  | unimplC3
  | unimplC4
  | unimplC5
  | unimplC6
  | unimplC7
  | unimplC8
  | unimplC9
  | unimplCA
  /-- `0xCB xx`, the prefix with its continuation byte (44_prefix_and_unimplemented.md R95). -/
  | cbXx (ext : Byte)
  | unimplCC
  | unimplCD
  | unimplCE
  | unimplCF
  | unimplD0
  | unimplD1
  | unimplD2
  | unimplD3
  | unimplD4
  | unimplD5
  | unimplD6
  | unimplD7
  | unimplD8
  | unimplD9
  | unimplDA
  | unimplDB
  | unimplDC
  | unimplDD
  | unimplDE
  | unimplDF
  | unimplE0
  | unimplE1
  | unimplE2
  | unimplE3
  | unimplE4
  | unimplE5
  | unimplE6
  | unimplE7
  | unimplE8
  | unimplE9
  | unimplEA
  | unimplEB
  | unimplEC
  | unimplED
  | unimplEE
  | unimplEF
  | unimplF0
  | unimplF1
  | unimplF2
  | unimplF3
  | unimplF4
  | unimplF5
  | unimplF6
  | unimplF7
  | unimplF8
  | unimplF9
  | unimplFA
  | unimplFB
  | unimplFC
  | unimplFD
  | unimplFE
  | unimplFF
deriving DecidableEq, Repr

end Sys2Proof
end

