-- ==== Sys2Proof/Decode.lean ====
section
/-! DEFINITION. Bytes to instruction and back (30_encoding.md R55 to R62): the length of a format, the base opcode map,
the decoder on a list of bytes, the encoder, and the decoder on an opcode-table word. -/

namespace Sys2Proof

/-! ## Bit fields -/

/-- `(hi << 8) | lo`, the word whose bits 15:8 are `hi` and bits 7:0 are `lo` (00_scope.md R7). -/
def wordOfBytes (hi lo : Byte) : Word := (hi.setWidth 16 <<< 8) ||| lo.setWidth 16

/-- `w[15:8]` (00_scope.md R7). -/
def hiByte (w : Word) : Byte := (w >>> 8).setWidth 8

/-- `w[7:0]` (00_scope.md R7). -/
def loByte (w : Word) : Byte := w.setWidth 8

/-! ## Formats and lengths -/

/-- The prefix byte (44_prefix_and_unimplemented.md R95). -/
def cbPrefix : Byte := 0xCB

/-- The format, told from the base opcode alone (30_encoding.md R57). -/
def formatOf (op : Byte) : Format :=
  if op = 0x21 ∨ op = 0x31 then .opD16
  else if op = cbPrefix then .cbExt
  else .op

/-- The bytes an instruction of a format has (30_encoding.md R56, R57). -/
def formatLength : Format → Nat
  | .op => 1
  | .opD16 => 3
  | .cbExt => 2

/-- The length of an instruction, from its base opcode (30_encoding.md R57). -/
def lengthOf (op : Byte) : Nat := formatLength (formatOf op)

/-! ## The base opcode map (30_encoding.md R59), one row of sixteen opcodes a list -/

/-- Base opcodes `0x00` to `0x0F`. -/
def opcodeRow0 : List Instr :=
  [.unimpl00, .unimpl01, .unimpl02, .unimpl03, .unimpl04, .unimpl05, .unimpl06, .unimpl07,
   .unimpl08, .unimpl09, .unimpl0A, .unimpl0B, .unimpl0C, .unimpl0D, .unimpl0E, .unimpl0F]

/-- Base opcodes `0x10` to `0x1F`. -/
def opcodeRow1 : List Instr :=
  [.unimpl10, .unimpl11, .unimpl12, .unimpl13, .unimpl14, .unimpl15, .unimpl16, .unimpl17,
   .unimpl18, .unimpl19, .unimpl1A, .unimpl1B, .unimpl1C, .unimpl1D, .unimpl1E, .unimpl1F]

/-- Base opcodes `0x20` to `0x2F`. -/
def opcodeRow2 (d16 : Word) : List Instr :=
  [.unimpl20, .ldHlD16 d16, .unimpl22, .unimpl23, .unimpl24, .unimpl25, .unimpl26, .unimpl27,
   .unimpl28, .unimpl29, .unimpl2A, .unimpl2B, .unimpl2C, .unimpl2D, .unimpl2E, .unimpl2F]

/-- Base opcodes `0x30` to `0x3F`. -/
def opcodeRow3 (d16 : Word) : List Instr :=
  [.unimpl30, .ldSpD16 d16, .ldHldA, .unimpl33, .unimpl34, .unimpl35, .unimpl36, .unimpl37,
   .unimpl38, .unimpl39, .unimpl3A, .unimpl3B, .unimpl3C, .unimpl3D, .unimpl3E, .unimpl3F]

/-- Base opcodes `0x40` to `0x4F`. -/
def opcodeRow4 : List Instr :=
  [.unimpl40, .unimpl41, .unimpl42, .unimpl43, .unimpl44, .unimpl45, .unimpl46, .unimpl47,
   .unimpl48, .unimpl49, .unimpl4A, .unimpl4B, .unimpl4C, .unimpl4D, .unimpl4E, .unimpl4F]

/-- Base opcodes `0x50` to `0x5F`. -/
def opcodeRow5 : List Instr :=
  [.unimpl50, .unimpl51, .unimpl52, .unimpl53, .unimpl54, .unimpl55, .unimpl56, .unimpl57,
   .unimpl58, .unimpl59, .unimpl5A, .unimpl5B, .unimpl5C, .unimpl5D, .unimpl5E, .unimpl5F]

/-- Base opcodes `0x60` to `0x6F`. -/
def opcodeRow6 : List Instr :=
  [.unimpl60, .unimpl61, .unimpl62, .unimpl63, .unimpl64, .unimpl65, .unimpl66, .unimpl67,
   .unimpl68, .unimpl69, .unimpl6A, .unimpl6B, .unimpl6C, .unimpl6D, .unimpl6E, .unimpl6F]

/-- Base opcodes `0x70` to `0x7F`. -/
def opcodeRow7 : List Instr :=
  [.unimpl70, .unimpl71, .unimpl72, .unimpl73, .unimpl74, .unimpl75, .unimpl76, .unimpl77,
   .unimpl78, .unimpl79, .unimpl7A, .unimpl7B, .unimpl7C, .unimpl7D, .unimpl7E, .unimpl7F]

/-- Base opcodes `0x80` to `0x8F`. -/
def opcodeRow8 : List Instr :=
  [.unimpl80, .unimpl81, .unimpl82, .unimpl83, .unimpl84, .unimpl85, .unimpl86, .unimpl87,
   .unimpl88, .unimpl89, .unimpl8A, .unimpl8B, .unimpl8C, .unimpl8D, .unimpl8E, .unimpl8F]

/-- Base opcodes `0x90` to `0x9F`. -/
def opcodeRow9 : List Instr :=
  [.unimpl90, .unimpl91, .unimpl92, .unimpl93, .unimpl94, .unimpl95, .unimpl96, .unimpl97,
   .unimpl98, .unimpl99, .unimpl9A, .unimpl9B, .unimpl9C, .unimpl9D, .unimpl9E, .unimpl9F]

/-- Base opcodes `0xA0` to `0xAF`. -/
def opcodeRowA : List Instr :=
  [.unimplA0, .unimplA1, .unimplA2, .unimplA3, .unimplA4, .unimplA5, .unimplA6, .unimplA7,
   .unimplA8, .unimplA9, .unimplAA, .unimplAB, .unimplAC, .unimplAD, .unimplAE, .xorA]

/-- Base opcodes `0xB0` to `0xBF`. -/
def opcodeRowB : List Instr :=
  [.unimplB0, .unimplB1, .unimplB2, .unimplB3, .unimplB4, .unimplB5, .unimplB6, .unimplB7,
   .unimplB8, .unimplB9, .unimplBA, .unimplBB, .unimplBC, .unimplBD, .unimplBE, .unimplBF]

/-- Base opcodes `0xC0` to `0xCF`. -/
def opcodeRowC (ext : Byte) : List Instr :=
  [.unimplC0, .unimplC1, .unimplC2, .unimplC3, .unimplC4, .unimplC5, .unimplC6, .unimplC7,
   .unimplC8, .unimplC9, .unimplCA, .cbXx ext, .unimplCC, .unimplCD, .unimplCE, .unimplCF]

/-- Base opcodes `0xD0` to `0xDF`. -/
def opcodeRowD : List Instr :=
  [.unimplD0, .unimplD1, .unimplD2, .unimplD3, .unimplD4, .unimplD5, .unimplD6, .unimplD7,
   .unimplD8, .unimplD9, .unimplDA, .unimplDB, .unimplDC, .unimplDD, .unimplDE, .unimplDF]

/-- Base opcodes `0xE0` to `0xEF`. -/
def opcodeRowE : List Instr :=
  [.unimplE0, .unimplE1, .unimplE2, .unimplE3, .unimplE4, .unimplE5, .unimplE6, .unimplE7,
   .unimplE8, .unimplE9, .unimplEA, .unimplEB, .unimplEC, .unimplED, .unimplEE, .unimplEF]

/-- Base opcodes `0xF0` to `0xFF`. -/
def opcodeRowF : List Instr :=
  [.unimplF0, .unimplF1, .unimplF2, .unimplF3, .unimplF4, .unimplF5, .unimplF6, .unimplF7,
   .unimplF8, .unimplF9, .unimplFA, .unimplFB, .unimplFC, .unimplFD, .unimplFE, .unimplFF]

/-- The base opcode map over all 256 values (30_encoding.md R59), given the operand bytes: sixteen rows of sixteen, entry
`lo` of row `hi` the instruction of base opcode `0x<hi><lo>`. `d16` is used by the two `OP_D16` opcodes only and `ext` by
the `CB_EXT` opcode only. -/
def baseOpcodeMap (d16 : Word) (ext : Byte) : List (List Instr) :=
  [opcodeRow0, opcodeRow1, opcodeRow2 d16, opcodeRow3 d16, opcodeRow4, opcodeRow5, opcodeRow6, opcodeRow7,
   opcodeRow8, opcodeRow9, opcodeRowA, opcodeRowB, opcodeRowC ext, opcodeRowD, opcodeRowE, opcodeRowF]

/-! ## The decoder -/

/-- Why a list of bytes is no instruction. Every base opcode is one (30_encoding.md R59), so the only way to fail is to
have too few bytes. -/
inductive DecodeError where
  /-- There is no byte at all. -/
  | noBytes
  /-- The base opcode's format has operand bytes that are not there. -/
  | missingOperandByte
  /-- The opcode map has no entry for the base opcode; it has all 256, so this never happens. -/
  | noRow
deriving DecidableEq, Repr

/-- The row of base opcode `op` with its operand bytes filled in. -/
def rowOf (op : Byte) (d16 : Word) (ext : Byte) : Except DecodeError Instr :=
  match (baseOpcodeMap d16 ext)[op.toNat / 16]? with
  | some row =>
    match row[op.toNat % 16]? with
    | some i => .ok i
    | none => .error .noRow
  | none => .error .noRow

/-- The decoder: the instruction at the head of a list of bytes and the bytes after it (30_encoding.md R55 to R58, R61).
The immediate is low byte first (R58); the continuation byte is never looked up in the base opcode map (R61). -/
def decode : List Byte → Except DecodeError (Instr × List Byte)
  | [] => .error .noBytes
  | op :: rest =>
    match formatOf op with
    | .op => (rowOf op 0 0).map (fun i => (i, rest))
    | .opD16 =>
      match rest with
      | lo :: hi :: rest' => (rowOf op (wordOfBytes hi lo) 0).map (fun i => (i, rest'))
      | _ => .error .missingOperandByte
    | .cbExt =>
      match rest with
      | ext :: rest' => (rowOf op 0 ext).map (fun i => (i, rest'))
      | _ => .error .missingOperandByte

/-! ## The encoder -/

/-- The bytes of an instruction, byte 0 first (30_encoding.md R56, R59). -/
def encode : Instr → List Byte
  | .unimpl00 => [0x00]
  | .unimpl01 => [0x01]
  | .unimpl02 => [0x02]
  | .unimpl03 => [0x03]
  | .unimpl04 => [0x04]
  | .unimpl05 => [0x05]
  | .unimpl06 => [0x06]
  | .unimpl07 => [0x07]
  | .unimpl08 => [0x08]
  | .unimpl09 => [0x09]
  | .unimpl0A => [0x0A]
  | .unimpl0B => [0x0B]
  | .unimpl0C => [0x0C]
  | .unimpl0D => [0x0D]
  | .unimpl0E => [0x0E]
  | .unimpl0F => [0x0F]
  | .unimpl10 => [0x10]
  | .unimpl11 => [0x11]
  | .unimpl12 => [0x12]
  | .unimpl13 => [0x13]
  | .unimpl14 => [0x14]
  | .unimpl15 => [0x15]
  | .unimpl16 => [0x16]
  | .unimpl17 => [0x17]
  | .unimpl18 => [0x18]
  | .unimpl19 => [0x19]
  | .unimpl1A => [0x1A]
  | .unimpl1B => [0x1B]
  | .unimpl1C => [0x1C]
  | .unimpl1D => [0x1D]
  | .unimpl1E => [0x1E]
  | .unimpl1F => [0x1F]
  | .unimpl20 => [0x20]
  | .ldHlD16 d16 => [0x21, loByte d16, hiByte d16]
  | .unimpl22 => [0x22]
  | .unimpl23 => [0x23]
  | .unimpl24 => [0x24]
  | .unimpl25 => [0x25]
  | .unimpl26 => [0x26]
  | .unimpl27 => [0x27]
  | .unimpl28 => [0x28]
  | .unimpl29 => [0x29]
  | .unimpl2A => [0x2A]
  | .unimpl2B => [0x2B]
  | .unimpl2C => [0x2C]
  | .unimpl2D => [0x2D]
  | .unimpl2E => [0x2E]
  | .unimpl2F => [0x2F]
  | .unimpl30 => [0x30]
  | .ldSpD16 d16 => [0x31, loByte d16, hiByte d16]
  | .ldHldA => [0x32]
  | .unimpl33 => [0x33]
  | .unimpl34 => [0x34]
  | .unimpl35 => [0x35]
  | .unimpl36 => [0x36]
  | .unimpl37 => [0x37]
  | .unimpl38 => [0x38]
  | .unimpl39 => [0x39]
  | .unimpl3A => [0x3A]
  | .unimpl3B => [0x3B]
  | .unimpl3C => [0x3C]
  | .unimpl3D => [0x3D]
  | .unimpl3E => [0x3E]
  | .unimpl3F => [0x3F]
  | .unimpl40 => [0x40]
  | .unimpl41 => [0x41]
  | .unimpl42 => [0x42]
  | .unimpl43 => [0x43]
  | .unimpl44 => [0x44]
  | .unimpl45 => [0x45]
  | .unimpl46 => [0x46]
  | .unimpl47 => [0x47]
  | .unimpl48 => [0x48]
  | .unimpl49 => [0x49]
  | .unimpl4A => [0x4A]
  | .unimpl4B => [0x4B]
  | .unimpl4C => [0x4C]
  | .unimpl4D => [0x4D]
  | .unimpl4E => [0x4E]
  | .unimpl4F => [0x4F]
  | .unimpl50 => [0x50]
  | .unimpl51 => [0x51]
  | .unimpl52 => [0x52]
  | .unimpl53 => [0x53]
  | .unimpl54 => [0x54]
  | .unimpl55 => [0x55]
  | .unimpl56 => [0x56]
  | .unimpl57 => [0x57]
  | .unimpl58 => [0x58]
  | .unimpl59 => [0x59]
  | .unimpl5A => [0x5A]
  | .unimpl5B => [0x5B]
  | .unimpl5C => [0x5C]
  | .unimpl5D => [0x5D]
  | .unimpl5E => [0x5E]
  | .unimpl5F => [0x5F]
  | .unimpl60 => [0x60]
  | .unimpl61 => [0x61]
  | .unimpl62 => [0x62]
  | .unimpl63 => [0x63]
  | .unimpl64 => [0x64]
  | .unimpl65 => [0x65]
  | .unimpl66 => [0x66]
  | .unimpl67 => [0x67]
  | .unimpl68 => [0x68]
  | .unimpl69 => [0x69]
  | .unimpl6A => [0x6A]
  | .unimpl6B => [0x6B]
  | .unimpl6C => [0x6C]
  | .unimpl6D => [0x6D]
  | .unimpl6E => [0x6E]
  | .unimpl6F => [0x6F]
  | .unimpl70 => [0x70]
  | .unimpl71 => [0x71]
  | .unimpl72 => [0x72]
  | .unimpl73 => [0x73]
  | .unimpl74 => [0x74]
  | .unimpl75 => [0x75]
  | .unimpl76 => [0x76]
  | .unimpl77 => [0x77]
  | .unimpl78 => [0x78]
  | .unimpl79 => [0x79]
  | .unimpl7A => [0x7A]
  | .unimpl7B => [0x7B]
  | .unimpl7C => [0x7C]
  | .unimpl7D => [0x7D]
  | .unimpl7E => [0x7E]
  | .unimpl7F => [0x7F]
  | .unimpl80 => [0x80]
  | .unimpl81 => [0x81]
  | .unimpl82 => [0x82]
  | .unimpl83 => [0x83]
  | .unimpl84 => [0x84]
  | .unimpl85 => [0x85]
  | .unimpl86 => [0x86]
  | .unimpl87 => [0x87]
  | .unimpl88 => [0x88]
  | .unimpl89 => [0x89]
  | .unimpl8A => [0x8A]
  | .unimpl8B => [0x8B]
  | .unimpl8C => [0x8C]
  | .unimpl8D => [0x8D]
  | .unimpl8E => [0x8E]
  | .unimpl8F => [0x8F]
  | .unimpl90 => [0x90]
  | .unimpl91 => [0x91]
  | .unimpl92 => [0x92]
  | .unimpl93 => [0x93]
  | .unimpl94 => [0x94]
  | .unimpl95 => [0x95]
  | .unimpl96 => [0x96]
  | .unimpl97 => [0x97]
  | .unimpl98 => [0x98]
  | .unimpl99 => [0x99]
  | .unimpl9A => [0x9A]
  | .unimpl9B => [0x9B]
  | .unimpl9C => [0x9C]
  | .unimpl9D => [0x9D]
  | .unimpl9E => [0x9E]
  | .unimpl9F => [0x9F]
  | .unimplA0 => [0xA0]
  | .unimplA1 => [0xA1]
  | .unimplA2 => [0xA2]
  | .unimplA3 => [0xA3]
  | .unimplA4 => [0xA4]
  | .unimplA5 => [0xA5]
  | .unimplA6 => [0xA6]
  | .unimplA7 => [0xA7]
  | .unimplA8 => [0xA8]
  | .unimplA9 => [0xA9]
  | .unimplAA => [0xAA]
  | .unimplAB => [0xAB]
  | .unimplAC => [0xAC]
  | .unimplAD => [0xAD]
  | .unimplAE => [0xAE]
  | .xorA => [0xAF]
  | .unimplB0 => [0xB0]
  | .unimplB1 => [0xB1]
  | .unimplB2 => [0xB2]
  | .unimplB3 => [0xB3]
  | .unimplB4 => [0xB4]
  | .unimplB5 => [0xB5]
  | .unimplB6 => [0xB6]
  | .unimplB7 => [0xB7]
  | .unimplB8 => [0xB8]
  | .unimplB9 => [0xB9]
  | .unimplBA => [0xBA]
  | .unimplBB => [0xBB]
  | .unimplBC => [0xBC]
  | .unimplBD => [0xBD]
  | .unimplBE => [0xBE]
  | .unimplBF => [0xBF]
  | .unimplC0 => [0xC0]
  | .unimplC1 => [0xC1]
  | .unimplC2 => [0xC2]
  | .unimplC3 => [0xC3]
  | .unimplC4 => [0xC4]
  | .unimplC5 => [0xC5]
  | .unimplC6 => [0xC6]
  | .unimplC7 => [0xC7]
  | .unimplC8 => [0xC8]
  | .unimplC9 => [0xC9]
  | .unimplCA => [0xCA]
  | .cbXx ext => [0xCB, ext]
  | .unimplCC => [0xCC]
  | .unimplCD => [0xCD]
  | .unimplCE => [0xCE]
  | .unimplCF => [0xCF]
  | .unimplD0 => [0xD0]
  | .unimplD1 => [0xD1]
  | .unimplD2 => [0xD2]
  | .unimplD3 => [0xD3]
  | .unimplD4 => [0xD4]
  | .unimplD5 => [0xD5]
  | .unimplD6 => [0xD6]
  | .unimplD7 => [0xD7]
  | .unimplD8 => [0xD8]
  | .unimplD9 => [0xD9]
  | .unimplDA => [0xDA]
  | .unimplDB => [0xDB]
  | .unimplDC => [0xDC]
  | .unimplDD => [0xDD]
  | .unimplDE => [0xDE]
  | .unimplDF => [0xDF]
  | .unimplE0 => [0xE0]
  | .unimplE1 => [0xE1]
  | .unimplE2 => [0xE2]
  | .unimplE3 => [0xE3]
  | .unimplE4 => [0xE4]
  | .unimplE5 => [0xE5]
  | .unimplE6 => [0xE6]
  | .unimplE7 => [0xE7]
  | .unimplE8 => [0xE8]
  | .unimplE9 => [0xE9]
  | .unimplEA => [0xEA]
  | .unimplEB => [0xEB]
  | .unimplEC => [0xEC]
  | .unimplED => [0xED]
  | .unimplEE => [0xEE]
  | .unimplEF => [0xEF]
  | .unimplF0 => [0xF0]
  | .unimplF1 => [0xF1]
  | .unimplF2 => [0xF2]
  | .unimplF3 => [0xF3]
  | .unimplF4 => [0xF4]
  | .unimplF5 => [0xF5]
  | .unimplF6 => [0xF6]
  | .unimplF7 => [0xF7]
  | .unimplF8 => [0xF8]
  | .unimplF9 => [0xF9]
  | .unimplFA => [0xFA]
  | .unimplFB => [0xFB]
  | .unimplFC => [0xFC]
  | .unimplFD => [0xFD]
  | .unimplFE => [0xFE]
  | .unimplFF => [0xFF]

/-- The base opcode of an instruction: its first byte (30_encoding.md R55). -/
def Instr.opcode (i : Instr) : Byte := (encode i).headD 0

/-! ## The opcode table's words -/

/-- The longest instruction, three bytes, as the bytes of a number numbered as spec/opcode_table.json numbers them: bit 0
is bit 0 of the first byte, the second byte is bits 15:8. Bits above `nbits` are 0. -/
def tableWordBytes (nbits w : Nat) : List Byte :=
  let v := w % 2 ^ nbits
  [BitVec.ofNat 8 v, BitVec.ofNat 8 (v / 256), BitVec.ofNat 8 (v / 65536)]

/-- The instruction the decoder reads from an opcode-table word. -/
def decodeTableWord (nbits w : Nat) : Option Instr :=
  match decode (tableWordBytes nbits w) with
  | .ok (i, _) => some i
  | .error _ => none

end Sys2Proof
end

