-- ==== Sys2Proof/Machine/State.lean ====
section
/-! DEFINITION. The state of the machine (10_state.md R10 to R25; 20_memory.md R31), what a step reports to the loop
driver (40_execution_cycle.md R78, 60_exceptions.md R100), the reasons to stop, and the state after power-on. -/

namespace Sys2Proof.Machine

/-- The nine storage ranges of 20_memory.md R31 as one list of (address, byte) pairs in a canonical form (`Memory.wf`):
addresses strictly rising, each address mapped, no byte 0. An address that is not listed holds 0, the reset value of
every byte (10_state.md R25). DEDUCED (log entry 4); safe. -/
abbrev Memory := List Host.Cell

/-- The record of the one exception (60_exceptions.md R100). -/
structure UnimplementedRecord where
  /-- Was the base opcode `0xCB`? -/
  prefixed : Bool
  /-- The base opcode, or for a prefixed one the continuation byte. -/
  opcode : Byte
  /-- `pc` at the start of the step: the address of the instruction's first byte. -/
  pcAtFetch : Word
deriving DecidableEq, Repr

/-- What a step reports to the loop driver (40_execution_cycle.md R78). -/
inductive StepOutcome where
  /-- One of the four defined instructions ran to completion. -/
  | executed (m : Mnemonic)
  /-- The opcode fetched has no defined dispatch case. -/
  | unimplementedOpcode (r : UnimplementedRecord)
deriving DecidableEq, Repr

/-- The state: the twelve registers of the Register File (10_state.md R10), the Address Space (20_memory.md R31), and the
report of the last step. -/
structure State where
  /-- Program counter: the address of the next instruction byte to fetch (R17). -/
  pc : Word
  /-- Stack pointer: written by `LD SP,d16`, read by nothing (R18). -/
  sp : Word
  /-- Accumulator (R12). -/
  a : Byte
  b : Byte
  c : Byte
  d : Byte
  e : Byte
  /-- Flags: Z N H C in bits 7 to 4 (R15); bits 3 to 0 are plain storage (R16). -/
  f : Byte
  /-- High half of the pair `hl` (R13). -/
  h : Byte
  /-- Low half of the pair `hl` (R13). -/
  l : Byte
  /-- Instruction register: the last base opcode or continuation byte fetched (R19). -/
  ir : Byte
  /-- Interrupt-enable shadow: inert, not the cell at `0xFFFF` (R20). -/
  ie : Byte
  /-- The Address Space's storage. -/
  mem : Memory
  /-- THE MODEL'S OWN FIELD, not a register: the outcome the last step handed to the loop driver (40_execution_cycle.md
  R78), `none` before the first step. Nothing in the machine reads it (60_exceptions.md R101: it "is stored in no
  architectural register"). DESIGN CHOICE (log entries 1 and 2). -/
  outcome : Option StepOutcome
deriving DecidableEq, Repr

/-- A stop of the machine with a fault. No instruction and no `step` raises one: 60_exceptions.md R102. -/
inductive Fault where
  /-- The fault of a RUN that reached an opcode with no dispatch case (44_prefix_and_unimplemented.md R97;
  93_implementation_defined.md U1, U2). Raised by the fail-fast step `stepStrict` of Machine/Driver.lean only, never by
  `exec` or `step`. Safe: it stops where a driver may go on. -/
  | unimplementedOpcode (r : UnimplementedRecord)
deriving DecidableEq, Repr

/-- A step with no meaning. -/
inductive Refusal where
  /-- An instruction without a meaning yet, raised by its arm of `exec`; no arm is left so. Safe. -/
  | notModelled (mnemonic : String)
  /-- The decoder refused the bytes at `pc`. Raised by `step` only, and never: three bytes always decode. Safe. -/
  | undecodable (e : DecodeError)
deriving DecidableEq, Repr

/-- The machine right after power-on: everything is 0 and `pc` is 0x0000 (10_state.md R25; 70_reset_and_hazards.md R115).
No step has reported anything. -/
def State.reset : State :=
  { pc := 0, sp := 0, a := 0, b := 0, c := 0, d := 0, e := 0, f := 0, h := 0, l := 0, ir := 0, ie := 0,
    mem := [], outcome := none }

end Sys2Proof.Machine
end

