-- ==== Sys2Proof/Machine/Ops.lean ====
section
/-! DEFINITION. The named operations every meaning is written over: the cells of the memory list, `read`, `write`,
`loadRom` (20_memory.md R34 to R36), the fetch of instruction bytes (40_execution_cycle.md R71 to R75), and what a step
reports: `Executed` (R78) or the one exception (60_exceptions.md R100, R106). -/

namespace Sys2Proof.Machine

/-! ## Cells of the memory list -/

/-- The byte of an unlisted cell: the reset value of every byte (10_state.md R25). -/
def unlistedByte : Byte := 0

/-- The byte of the cell at key `k`. -/
def cellAt : Memory → Nat → Byte
  | [], _ => unlistedByte
  | (j, v) :: m, k => if j = k then v else cellAt m k

/-- Insert a cell before the first listed cell of a higher key. -/
def insertCell (k : Nat) (v : Byte) : Memory → Memory
  | [] => [(k, v)]
  | (j, w) :: m => if k < j then (k, v) :: (j, w) :: m else (j, w) :: insertCell k v m

/-- Store a byte in the cell at key `k`; storing what an unlisted cell holds takes the cell out of the list. -/
def setCell (m : Memory) (k : Nat) (v : Byte) : Memory :=
  let rest := m.filter (fun c => c.1 != k)
  if v = unlistedByte then rest else insertCell k v rest

/-- The canonical form: addresses strictly rising, each the address of a mapped byte, none holding what an unlisted
address reads as. -/
def Memory.wf : Memory → Bool
  | [] => true
  | (k, v) :: m =>
    (decide (k < 65536) && mapped (BitVec.ofNat 16 k) && v != unlistedByte && m.all (fun c => decide (k < c.1)))
      && Memory.wf m

/-! ## The three operations of the Address Space -/

/-- The sentinel an unmapped address reads as (20_memory.md R32). -/
def unmappedByte : Byte := 0

/-- `read(address)` (20_memory.md R34). -/
def read (m : Memory) (addr : Word) : Byte :=
  match decodeAddress addr with
  | some (r, off) => cellAt m (r.base + off)
  | none => unmappedByte

/-- `write(address, byte)` (20_memory.md R35): a store in a read/write range, a no-op in ROM and at an unmapped address. -/
def write (m : Memory) (addr : Word) (v : Byte) : Memory :=
  match decodeAddress addr with
  | some (r, off) => if r.isRom then m else setCell m (r.base + off) v
  | none => m

/-- `loadRom(address, byte)` (20_memory.md R36): a store in a ROM range, ignored anywhere else. Reserved to the loader:
no instruction uses it. -/
def loadRom (m : Memory) (addr : Word) (v : Byte) : Memory :=
  match decodeAddress addr with
  | some (r, off) => if r.isRom then setCell m (r.base + off) v else m
  | none => m

/-! ## Register updates -/

/-- `pc <- v`. -/
def State.setPc (s : State) (v : Word) : State := { s with pc := v }

/-- `sp <- v`. -/
def State.setSp (s : State) (v : Word) : State := { s with sp := v }

/-- `a <- v`. -/
def State.setA (s : State) (v : Byte) : State := { s with a := v }

/-- `f <- v`, all eight bits as given (10_state.md R27). -/
def State.setF (s : State) (v : Byte) : State := { s with f := v }

/-- `ir <- v`. -/
def State.setIr (s : State) (v : Byte) : State := { s with ir := v }

/-- `MemWrite(addr, 1, v)` (00_scope.md R8). -/
def State.store (s : State) (addr : Word) (v : Byte) : State := { s with mem := write s.mem addr v }

/-- Hand an outcome to the loop driver. -/
def State.report (s : State) (o : StepOutcome) : State := { s with outcome := some o }

/-! ## Fetching instruction bytes -/

/-- `Fetch8()` (40_execution_cycle.md R75): the byte at `pc`, and the state with `pc` one further, modulo 65536. -/
def fetch8 (s : State) : Byte × State := (read s.mem s.pc, s.setPc (s.pc + 1))

/-- `Fetch16()` (40_execution_cycle.md R75): two bytes, low byte first. -/
def fetch16 (s : State) : Word × State :=
  let lo := fetch8 s
  let hi := fetch8 lo.2
  (wordOfBytes hi.1 lo.1, hi.2)

/-- Fetch and advance (40_execution_cycle.md R71, R72): `ir <- MemRead(pc, 1); pc <- pc + 1`. -/
def fetchToIr (s : State) : State := (fetch8 s).2.setIr (fetch8 s).1

/-- What a step does before the dispatch: fetch, advance, and for the prefix one more fetch and advance
(40_execution_cycle.md R71 to R73). The comparison with `0xCB` is made once, on the base opcode. -/
def fetchPhase (s : State) : State :=
  if (fetchToIr s).ir = cbPrefix then fetchToIr (fetchToIr s) else fetchToIr s

/-- The three bytes at `pc`, `pc + 1`, `pc + 2` (modulo 65536; 30_encoding.md R62): as many as the longest instruction
has. Reading them changes nothing (20_memory.md R43), so reading more than the instruction has is not observable.
DEDUCED (log entry 3); safe. -/
def instructionBytes (s : State) : List Byte :=
  [read s.mem s.pc, read s.mem (s.pc + 1), read s.mem (s.pc + 2)]

/-- `pc` past the two operand bytes of a 16-bit immediate (40_execution_cycle.md R75). -/
def State.skipImmediate16 (s : State) : State := s.setPc (s.pc + 1 + 1)

/-! ## Placing an instruction -/

/-- Put a byte in storage whatever its range: the loader's path into ROM, a store elsewhere. -/
def place (m : Memory) (addr : Word) (v : Byte) : Memory :=
  if loadable addr then loadRom m addr v else write m addr v

/-- Put bytes at consecutive addresses, modulo 65536. -/
def placeBytes (m : Memory) (addr : Word) : List Byte → Memory
  | [] => m
  | v :: vs => placeBytes (place m addr v) (addr + 1) vs

/-- The three addresses of `instructionBytes` all have storage. -/
def fetchWindowMapped (pc : Word) : Bool := mapped pc && mapped (pc + 1) && mapped (pc + 2)

/-- Put an instruction's bytes where the next step fetches: at `pc` where the window has storage, else at 0x0000 with
`pc <- 0`. It stands for the load of a program from outside. DESIGN CHOICE (log entry 7); safe. -/
def placeInstruction (bytes : List Byte) (s : State) : State :=
  if fetchWindowMapped s.pc then { s with mem := placeBytes s.mem s.pc bytes }
  else { s with pc := 0, mem := placeBytes s.mem 0 bytes }

/-! ## The outcome of an instruction -/

/-- `return Executed(m)` (40_execution_cycle.md R78). -/
def executed (m : Mnemonic) (s : State) : Host.Outcome State Fault Refusal :=
  .next (s.report (.executed m))

/-- `raise UnimplementedOpcode(prefixed, opcode, pc_at_fetch)` (60_exceptions.md R100, R106): the writes of the fetch
phase stay committed, nothing is saved, no mode changes, control is transferred nowhere, and the record goes to the loop
driver. The step is complete: the state after it is fully defined (40_execution_cycle.md R78).
There is no return from it: going on is another step at the current `pc` (R107). DESIGN CHOICE (log entry 1): a next
state that carries the report, not a stop of the machine. -/
def raiseUnimplemented (prefixed : Bool) (opcode : Byte) (pcAtFetch : Word) (s : State) :
    Host.Outcome State Fault Refusal :=
  .next (s.report (.unimplementedOpcode ⟨prefixed, opcode, pcAtFetch⟩))

/-- The body of a base opcode with no dispatch case (44_prefix_and_unimplemented.md R96). On entry `pc == pc0 + 1`
modulo 65536, so `pc0` is `pc - 1`. DEDUCED (log entry 5); safe. -/
def raiseForBase (opcode : Byte) (s : State) : Host.Outcome State Fault Refusal :=
  raiseUnimplemented false opcode (s.pc - 1) s

/-- The body of the prefix (44_prefix_and_unimplemented.md R95). On entry `pc == pc0 + 2` modulo 65536, so `pc0` is
`pc - 2`. DEDUCED (log entry 5); safe. -/
def raiseForPrefixed (ext : Byte) (s : State) : Host.Outcome State Fault Refusal :=
  raiseUnimplemented true ext (s.pc - 2) s

end Sys2Proof.Machine
end

