-- ==== Sys2Proof/Machine/Flags.lean ====
section
/-! DEFINITION. The flags (10_state.md R15) and the one operation that writes them (42_alu_flags.md R85). -/

namespace Sys2Proof.Machine

/-- Mask of Zero, bit 7 (10_state.md R15). -/
def maskZ : Byte := 0x80
/-- Mask of Subtract, bit 6 (10_state.md R15). -/
def maskN : Byte := 0x40
/-- Mask of Half-carry, bit 5 (10_state.md R15). -/
def maskH : Byte := 0x20
/-- Mask of Carry, bit 4 (10_state.md R15). -/
def maskC : Byte := 0x10

/-- Zero. -/
def State.flagZ (s : State) : Bool := s.f.getLsbD 7
/-- Subtract. -/
def State.flagN (s : State) : Bool := s.f.getLsbD 6
/-- Half-carry. -/
def State.flagH (s : State) : Bool := s.f.getLsbD 5
/-- Carry. -/
def State.flagC (s : State) : Bool := s.f.getLsbD 4

/-- `f` after `SetFlags(zero, subtract, halfCarry, carry)` (42_alu_flags.md R85): bits 3 to 0 kept; a false argument
clears its bit (90_conflicts.md C2). -/
def flagByte (f : Byte) (zero subtract halfCarry carry : Bool) : Byte :=
  (f &&& 0x0F) ||| (if zero then maskZ else 0) ||| (if subtract then maskN else 0)
    ||| (if halfCarry then maskH else 0) ||| (if carry then maskC else 0)

/-- `SetFlags(zero, subtract, halfCarry, carry)` (42_alu_flags.md R85). -/
def setFlags (zero subtract halfCarry carry : Bool) (s : State) : State :=
  s.setF (flagByte s.f zero subtract halfCarry carry)

end Sys2Proof.Machine
end

