-- ==== Sys2Proof/Machine/Alu.lean ====
section
/-! DEFINITION. The one ALU instruction (42_alu_flags.md). -/

namespace Sys2Proof.Machine

/-- `XOR A` (R86): `a <- a XOR a`, `SetFlags(true, false, false, false)`. -/
def execXorA (s : State) : Host.Outcome State Fault Refusal :=
  executed .xorA (setFlags true false false false (s.setA (s.a ^^^ s.a)))

end Sys2Proof.Machine
end

