-- ==== Sys2Proof/Machine/Operands.lean ====
section
/-! DEFINITION. The operand forms (30_encoding.md R58): the register pairs as views of the 8-bit registers
(10_state.md R13, R14), and the address of `LD (HL-),A` (43_store_hld.md R90). The 16-bit immediate is put together by the
decoder (`wordOfBytes`) and skipped by `State.skipImmediate16`. -/

namespace Sys2Proof.Machine

/-- The register pairs: there is no pair of `a` and `f` (10_state.md R13). -/
inductive Pair where
  | bc
  | de
  | hl
deriving DecidableEq, Repr

/-- `readPair(name)` (10_state.md R13): the first-named register is the high byte. -/
def readPair (p : Pair) (s : State) : Word :=
  match p with
  | .bc => wordOfBytes s.b s.c
  | .de => wordOfBytes s.d s.e
  | .hl => wordOfBytes s.h s.l

/-- `writePair(name, value)` (10_state.md R14). -/
def writePair (p : Pair) (v : Word) (s : State) : State :=
  match p with
  | .bc => { s with b := hiByte v, c := loByte v }
  | .de => { s with d := hiByte v, e := loByte v }
  | .hl => { s with h := hiByte v, l := loByte v }

/-- The address `LD (HL-),A` stores to: the pair `hl` before the decrement (43_store_hld.md R90). -/
def storeAddress (s : State) : Word := readPair .hl s

/-- `hl <- (ea - 1) mod 65536` through the pair setter (43_store_hld.md R90). -/
def decrementHl (ea : Word) (s : State) : State := writePair .hl (ea - 1) s

end Sys2Proof.Machine
end

