-- ==== Sys2Proof/Machine/Load.lean ====
section
/-! DEFINITION. The 16-bit immediate loads (41_load_imm16.md). On entry `ir` holds the opcode and `pc` points at the first
operand byte; the immediate is the instruction's own field, put together from those two bytes by the decoder. -/

namespace Sys2Proof.Machine

/-- `LD SP,d16` (R80): `sp <- d16`, `pc` past the operand bytes, nothing else. -/
def execLdSpD16 (d16 : Word) (s : State) : Host.Outcome State Fault Refusal :=
  executed .ldSpD16 (s.skipImmediate16.setSp d16)

/-- `LD HL,d16` (R81): `hl <- d16` through the pair setter, `pc` past the operand bytes, nothing else. -/
def execLdHlD16 (d16 : Word) (s : State) : Host.Outcome State Fault Refusal :=
  executed .ldHlD16 (writePair .hl d16 s.skipImmediate16)

end Sys2Proof.Machine
end

