-- ==== Sys2Proof/Machine/Prefix.lean ====
section
/-! DEFINITION. The CB prefix (44_prefix_and_unimplemented.md R95; 30_encoding.md R61). -/

namespace Sys2Proof.Machine

/-- `CB xx` (R95): both bytes are consumed by the fetch phase; the extended table is empty, so the continuation byte
selects nothing and is reported. -/
def execCbXx (ext : Byte) (s : State) : Host.Outcome State Fault Refusal := raiseForPrefixed ext s

end Sys2Proof.Machine
end

