-- ==== Sys2Proof/Machine/Store.lean ====
section
/-! DEFINITION. The one store (43_store_hld.md). -/

namespace Sys2Proof.Machine

/-- `LD (HL-),A` (R90): `a` to the address in `hl`, stored or discarded by the region's policy, then `hl <- hl - 1`. -/
def execLdHldA (s : State) : Host.Outcome State Fault Refusal :=
  let ea := storeAddress s
  executed .ldHldA (decrementHl ea (s.store ea s.a))

end Sys2Proof.Machine
end

