-- ==== Sys2Proof/Machine/Unimplemented.lean ====
section
/-! DEFINITION. The 251 base opcodes with no defined dispatch case (44_prefix_and_unimplemented.md R96), each over the
shared operation `raiseForBase`: one byte consumed by the fetch phase, nothing else changed, the opcode reported. -/

namespace Sys2Proof.Machine

/-- `UNIMPL_00` (R96). -/
def execUnimpl00 (s : State) : Host.Outcome State Fault Refusal := raiseForBase 0x00 s
/-- `UNIMPL_01` (R96). -/
def execUnimpl01 (s : State) : Host.Outcome State Fault Refusal := raiseForBase 0x01 s
/-- `UNIMPL_02` (R96). -/
def execUnimpl02 (s : State) : Host.Outcome State Fault Refusal := raiseForBase 0x02 s
/-- `UNIMPL_03` (R96). -/
def execUnimpl03 (s : State) : Host.Outcome State Fault Refusal := raiseForBase 0x03 s
/-- `UNIMPL_04` (R96). -/
def execUnimpl04 (s : State) : Host.Outcome State Fault Refusal := raiseForBase 0x04 s
/-- `UNIMPL_05` (R96). -/
def execUnimpl05 (s : State) : Host.Outcome State Fault Refusal := raiseForBase 0x05 s
/-- `UNIMPL_06` (R96). -/
def execUnimpl06 (s : State) : Host.Outcome State Fault Refusal := raiseForBase 0x06 s
/-- `UNIMPL_07` (R96). -/
def execUnimpl07 (s : State) : Host.Outcome State Fault Refusal := raiseForBase 0x07 s
/-- `UNIMPL_08` (R96). -/
def execUnimpl08 (s : State) : Host.Outcome State Fault Refusal := raiseForBase 0x08 s
/-- `UNIMPL_09` (R96). -/
def execUnimpl09 (s : State) : Host.Outcome State Fault Refusal := raiseForBase 0x09 s
/-- `UNIMPL_0A` (R96). -/
def execUnimpl0A (s : State) : Host.Outcome State Fault Refusal := raiseForBase 0x0A s
/-- `UNIMPL_0B` (R96). -/
def execUnimpl0B (s : State) : Host.Outcome State Fault Refusal := raiseForBase 0x0B s
/-- `UNIMPL_0C` (R96). -/
def execUnimpl0C (s : State) : Host.Outcome State Fault Refusal := raiseForBase 0x0C s
/-- `UNIMPL_0D` (R96). -/
def execUnimpl0D (s : State) : Host.Outcome State Fault Refusal := raiseForBase 0x0D s
/-- `UNIMPL_0E` (R96). -/
def execUnimpl0E (s : State) : Host.Outcome State Fault Refusal := raiseForBase 0x0E s
/-- `UNIMPL_0F` (R96). -/
def execUnimpl0F (s : State) : Host.Outcome State Fault Refusal := raiseForBase 0x0F s
/-- `UNIMPL_10` (R96). -/
def execUnimpl10 (s : State) : Host.Outcome State Fault Refusal := raiseForBase 0x10 s
/-- `UNIMPL_11` (R96). -/
def execUnimpl11 (s : State) : Host.Outcome State Fault Refusal := raiseForBase 0x11 s
/-- `UNIMPL_12` (R96). -/
def execUnimpl12 (s : State) : Host.Outcome State Fault Refusal := raiseForBase 0x12 s
/-- `UNIMPL_13` (R96). -/
def execUnimpl13 (s : State) : Host.Outcome State Fault Refusal := raiseForBase 0x13 s
/-- `UNIMPL_14` (R96). -/
def execUnimpl14 (s : State) : Host.Outcome State Fault Refusal := raiseForBase 0x14 s
/-- `UNIMPL_15` (R96). -/
def execUnimpl15 (s : State) : Host.Outcome State Fault Refusal := raiseForBase 0x15 s
/-- `UNIMPL_16` (R96). -/
def execUnimpl16 (s : State) : Host.Outcome State Fault Refusal := raiseForBase 0x16 s
/-- `UNIMPL_17` (R96). -/
def execUnimpl17 (s : State) : Host.Outcome State Fault Refusal := raiseForBase 0x17 s
/-- `UNIMPL_18` (R96). -/
def execUnimpl18 (s : State) : Host.Outcome State Fault Refusal := raiseForBase 0x18 s
/-- `UNIMPL_19` (R96). -/
def execUnimpl19 (s : State) : Host.Outcome State Fault Refusal := raiseForBase 0x19 s
/-- `UNIMPL_1A` (R96). -/
def execUnimpl1A (s : State) : Host.Outcome State Fault Refusal := raiseForBase 0x1A s
/-- `UNIMPL_1B` (R96). -/
def execUnimpl1B (s : State) : Host.Outcome State Fault Refusal := raiseForBase 0x1B s
/-- `UNIMPL_1C` (R96). -/
def execUnimpl1C (s : State) : Host.Outcome State Fault Refusal := raiseForBase 0x1C s
/-- `UNIMPL_1D` (R96). -/
def execUnimpl1D (s : State) : Host.Outcome State Fault Refusal := raiseForBase 0x1D s
/-- `UNIMPL_1E` (R96). -/
def execUnimpl1E (s : State) : Host.Outcome State Fault Refusal := raiseForBase 0x1E s
/-- `UNIMPL_1F` (R96). -/
def execUnimpl1F (s : State) : Host.Outcome State Fault Refusal := raiseForBase 0x1F s
/-- `UNIMPL_20` (R96). -/
def execUnimpl20 (s : State) : Host.Outcome State Fault Refusal := raiseForBase 0x20 s
/-- `UNIMPL_22` (R96). -/
def execUnimpl22 (s : State) : Host.Outcome State Fault Refusal := raiseForBase 0x22 s
/-- `UNIMPL_23` (R96). -/
def execUnimpl23 (s : State) : Host.Outcome State Fault Refusal := raiseForBase 0x23 s
/-- `UNIMPL_24` (R96). -/
def execUnimpl24 (s : State) : Host.Outcome State Fault Refusal := raiseForBase 0x24 s
/-- `UNIMPL_25` (R96). -/
def execUnimpl25 (s : State) : Host.Outcome State Fault Refusal := raiseForBase 0x25 s
/-- `UNIMPL_26` (R96). -/
def execUnimpl26 (s : State) : Host.Outcome State Fault Refusal := raiseForBase 0x26 s
/-- `UNIMPL_27` (R96). -/
def execUnimpl27 (s : State) : Host.Outcome State Fault Refusal := raiseForBase 0x27 s
/-- `UNIMPL_28` (R96). -/
def execUnimpl28 (s : State) : Host.Outcome State Fault Refusal := raiseForBase 0x28 s
/-- `UNIMPL_29` (R96). -/
def execUnimpl29 (s : State) : Host.Outcome State Fault Refusal := raiseForBase 0x29 s
/-- `UNIMPL_2A` (R96). -/
def execUnimpl2A (s : State) : Host.Outcome State Fault Refusal := raiseForBase 0x2A s
/-- `UNIMPL_2B` (R96). -/
def execUnimpl2B (s : State) : Host.Outcome State Fault Refusal := raiseForBase 0x2B s
/-- `UNIMPL_2C` (R96). -/
def execUnimpl2C (s : State) : Host.Outcome State Fault Refusal := raiseForBase 0x2C s
/-- `UNIMPL_2D` (R96). -/
def execUnimpl2D (s : State) : Host.Outcome State Fault Refusal := raiseForBase 0x2D s
/-- `UNIMPL_2E` (R96). -/
def execUnimpl2E (s : State) : Host.Outcome State Fault Refusal := raiseForBase 0x2E s
/-- `UNIMPL_2F` (R96). -/
def execUnimpl2F (s : State) : Host.Outcome State Fault Refusal := raiseForBase 0x2F s
/-- `UNIMPL_30` (R96). -/
def execUnimpl30 (s : State) : Host.Outcome State Fault Refusal := raiseForBase 0x30 s
/-- `UNIMPL_33` (R96). -/
def execUnimpl33 (s : State) : Host.Outcome State Fault Refusal := raiseForBase 0x33 s
/-- `UNIMPL_34` (R96). -/
def execUnimpl34 (s : State) : Host.Outcome State Fault Refusal := raiseForBase 0x34 s
/-- `UNIMPL_35` (R96). -/
def execUnimpl35 (s : State) : Host.Outcome State Fault Refusal := raiseForBase 0x35 s
/-- `UNIMPL_36` (R96). -/
def execUnimpl36 (s : State) : Host.Outcome State Fault Refusal := raiseForBase 0x36 s
/-- `UNIMPL_37` (R96). -/
def execUnimpl37 (s : State) : Host.Outcome State Fault Refusal := raiseForBase 0x37 s
/-- `UNIMPL_38` (R96). -/
def execUnimpl38 (s : State) : Host.Outcome State Fault Refusal := raiseForBase 0x38 s
/-- `UNIMPL_39` (R96). -/
def execUnimpl39 (s : State) : Host.Outcome State Fault Refusal := raiseForBase 0x39 s
/-- `UNIMPL_3A` (R96). -/
def execUnimpl3A (s : State) : Host.Outcome State Fault Refusal := raiseForBase 0x3A s
/-- `UNIMPL_3B` (R96). -/
def execUnimpl3B (s : State) : Host.Outcome State Fault Refusal := raiseForBase 0x3B s
/-- `UNIMPL_3C` (R96). -/
def execUnimpl3C (s : State) : Host.Outcome State Fault Refusal := raiseForBase 0x3C s
/-- `UNIMPL_3D` (R96). -/
def execUnimpl3D (s : State) : Host.Outcome State Fault Refusal := raiseForBase 0x3D s
/-- `UNIMPL_3E` (R96). -/
def execUnimpl3E (s : State) : Host.Outcome State Fault Refusal := raiseForBase 0x3E s
/-- `UNIMPL_3F` (R96). -/
def execUnimpl3F (s : State) : Host.Outcome State Fault Refusal := raiseForBase 0x3F s
/-- `UNIMPL_40` (R96). -/
def execUnimpl40 (s : State) : Host.Outcome State Fault Refusal := raiseForBase 0x40 s
/-- `UNIMPL_41` (R96). -/
def execUnimpl41 (s : State) : Host.Outcome State Fault Refusal := raiseForBase 0x41 s
/-- `UNIMPL_42` (R96). -/
def execUnimpl42 (s : State) : Host.Outcome State Fault Refusal := raiseForBase 0x42 s
/-- `UNIMPL_43` (R96). -/
def execUnimpl43 (s : State) : Host.Outcome State Fault Refusal := raiseForBase 0x43 s
/-- `UNIMPL_44` (R96). -/
def execUnimpl44 (s : State) : Host.Outcome State Fault Refusal := raiseForBase 0x44 s
/-- `UNIMPL_45` (R96). -/
def execUnimpl45 (s : State) : Host.Outcome State Fault Refusal := raiseForBase 0x45 s
/-- `UNIMPL_46` (R96). -/
def execUnimpl46 (s : State) : Host.Outcome State Fault Refusal := raiseForBase 0x46 s
/-- `UNIMPL_47` (R96). -/
def execUnimpl47 (s : State) : Host.Outcome State Fault Refusal := raiseForBase 0x47 s
/-- `UNIMPL_48` (R96). -/
def execUnimpl48 (s : State) : Host.Outcome State Fault Refusal := raiseForBase 0x48 s
/-- `UNIMPL_49` (R96). -/
def execUnimpl49 (s : State) : Host.Outcome State Fault Refusal := raiseForBase 0x49 s
/-- `UNIMPL_4A` (R96). -/
def execUnimpl4A (s : State) : Host.Outcome State Fault Refusal := raiseForBase 0x4A s
/-- `UNIMPL_4B` (R96). -/
def execUnimpl4B (s : State) : Host.Outcome State Fault Refusal := raiseForBase 0x4B s
/-- `UNIMPL_4C` (R96). -/
def execUnimpl4C (s : State) : Host.Outcome State Fault Refusal := raiseForBase 0x4C s
/-- `UNIMPL_4D` (R96). -/
def execUnimpl4D (s : State) : Host.Outcome State Fault Refusal := raiseForBase 0x4D s
/-- `UNIMPL_4E` (R96). -/
def execUnimpl4E (s : State) : Host.Outcome State Fault Refusal := raiseForBase 0x4E s
/-- `UNIMPL_4F` (R96). -/
def execUnimpl4F (s : State) : Host.Outcome State Fault Refusal := raiseForBase 0x4F s
/-- `UNIMPL_50` (R96). -/
def execUnimpl50 (s : State) : Host.Outcome State Fault Refusal := raiseForBase 0x50 s
/-- `UNIMPL_51` (R96). -/
def execUnimpl51 (s : State) : Host.Outcome State Fault Refusal := raiseForBase 0x51 s
/-- `UNIMPL_52` (R96). -/
def execUnimpl52 (s : State) : Host.Outcome State Fault Refusal := raiseForBase 0x52 s
/-- `UNIMPL_53` (R96). -/
def execUnimpl53 (s : State) : Host.Outcome State Fault Refusal := raiseForBase 0x53 s
/-- `UNIMPL_54` (R96). -/
def execUnimpl54 (s : State) : Host.Outcome State Fault Refusal := raiseForBase 0x54 s
/-- `UNIMPL_55` (R96). -/
def execUnimpl55 (s : State) : Host.Outcome State Fault Refusal := raiseForBase 0x55 s
/-- `UNIMPL_56` (R96). -/
def execUnimpl56 (s : State) : Host.Outcome State Fault Refusal := raiseForBase 0x56 s
/-- `UNIMPL_57` (R96). -/
def execUnimpl57 (s : State) : Host.Outcome State Fault Refusal := raiseForBase 0x57 s
/-- `UNIMPL_58` (R96). -/
def execUnimpl58 (s : State) : Host.Outcome State Fault Refusal := raiseForBase 0x58 s
/-- `UNIMPL_59` (R96). -/
def execUnimpl59 (s : State) : Host.Outcome State Fault Refusal := raiseForBase 0x59 s
/-- `UNIMPL_5A` (R96). -/
def execUnimpl5A (s : State) : Host.Outcome State Fault Refusal := raiseForBase 0x5A s
/-- `UNIMPL_5B` (R96). -/
def execUnimpl5B (s : State) : Host.Outcome State Fault Refusal := raiseForBase 0x5B s
/-- `UNIMPL_5C` (R96). -/
def execUnimpl5C (s : State) : Host.Outcome State Fault Refusal := raiseForBase 0x5C s
/-- `UNIMPL_5D` (R96). -/
def execUnimpl5D (s : State) : Host.Outcome State Fault Refusal := raiseForBase 0x5D s
/-- `UNIMPL_5E` (R96). -/
def execUnimpl5E (s : State) : Host.Outcome State Fault Refusal := raiseForBase 0x5E s
/-- `UNIMPL_5F` (R96). -/
def execUnimpl5F (s : State) : Host.Outcome State Fault Refusal := raiseForBase 0x5F s
/-- `UNIMPL_60` (R96). -/
def execUnimpl60 (s : State) : Host.Outcome State Fault Refusal := raiseForBase 0x60 s
/-- `UNIMPL_61` (R96). -/
def execUnimpl61 (s : State) : Host.Outcome State Fault Refusal := raiseForBase 0x61 s
/-- `UNIMPL_62` (R96). -/
def execUnimpl62 (s : State) : Host.Outcome State Fault Refusal := raiseForBase 0x62 s
/-- `UNIMPL_63` (R96). -/
def execUnimpl63 (s : State) : Host.Outcome State Fault Refusal := raiseForBase 0x63 s
/-- `UNIMPL_64` (R96). -/
def execUnimpl64 (s : State) : Host.Outcome State Fault Refusal := raiseForBase 0x64 s
/-- `UNIMPL_65` (R96). -/
def execUnimpl65 (s : State) : Host.Outcome State Fault Refusal := raiseForBase 0x65 s
/-- `UNIMPL_66` (R96). -/
def execUnimpl66 (s : State) : Host.Outcome State Fault Refusal := raiseForBase 0x66 s
/-- `UNIMPL_67` (R96). -/
def execUnimpl67 (s : State) : Host.Outcome State Fault Refusal := raiseForBase 0x67 s
/-- `UNIMPL_68` (R96). -/
def execUnimpl68 (s : State) : Host.Outcome State Fault Refusal := raiseForBase 0x68 s
/-- `UNIMPL_69` (R96). -/
def execUnimpl69 (s : State) : Host.Outcome State Fault Refusal := raiseForBase 0x69 s
/-- `UNIMPL_6A` (R96). -/
def execUnimpl6A (s : State) : Host.Outcome State Fault Refusal := raiseForBase 0x6A s
/-- `UNIMPL_6B` (R96). -/
def execUnimpl6B (s : State) : Host.Outcome State Fault Refusal := raiseForBase 0x6B s
/-- `UNIMPL_6C` (R96). -/
def execUnimpl6C (s : State) : Host.Outcome State Fault Refusal := raiseForBase 0x6C s
/-- `UNIMPL_6D` (R96). -/
def execUnimpl6D (s : State) : Host.Outcome State Fault Refusal := raiseForBase 0x6D s
/-- `UNIMPL_6E` (R96). -/
def execUnimpl6E (s : State) : Host.Outcome State Fault Refusal := raiseForBase 0x6E s
/-- `UNIMPL_6F` (R96). -/
def execUnimpl6F (s : State) : Host.Outcome State Fault Refusal := raiseForBase 0x6F s
/-- `UNIMPL_70` (R96). -/
def execUnimpl70 (s : State) : Host.Outcome State Fault Refusal := raiseForBase 0x70 s
/-- `UNIMPL_71` (R96). -/
def execUnimpl71 (s : State) : Host.Outcome State Fault Refusal := raiseForBase 0x71 s
/-- `UNIMPL_72` (R96). -/
def execUnimpl72 (s : State) : Host.Outcome State Fault Refusal := raiseForBase 0x72 s
/-- `UNIMPL_73` (R96). -/
def execUnimpl73 (s : State) : Host.Outcome State Fault Refusal := raiseForBase 0x73 s
/-- `UNIMPL_74` (R96). -/
def execUnimpl74 (s : State) : Host.Outcome State Fault Refusal := raiseForBase 0x74 s
/-- `UNIMPL_75` (R96). -/
def execUnimpl75 (s : State) : Host.Outcome State Fault Refusal := raiseForBase 0x75 s
/-- `UNIMPL_76` (R96). -/
def execUnimpl76 (s : State) : Host.Outcome State Fault Refusal := raiseForBase 0x76 s
/-- `UNIMPL_77` (R96). -/
def execUnimpl77 (s : State) : Host.Outcome State Fault Refusal := raiseForBase 0x77 s
/-- `UNIMPL_78` (R96). -/
def execUnimpl78 (s : State) : Host.Outcome State Fault Refusal := raiseForBase 0x78 s
/-- `UNIMPL_79` (R96). -/
def execUnimpl79 (s : State) : Host.Outcome State Fault Refusal := raiseForBase 0x79 s
/-- `UNIMPL_7A` (R96). -/
def execUnimpl7A (s : State) : Host.Outcome State Fault Refusal := raiseForBase 0x7A s
/-- `UNIMPL_7B` (R96). -/
def execUnimpl7B (s : State) : Host.Outcome State Fault Refusal := raiseForBase 0x7B s
/-- `UNIMPL_7C` (R96). -/
def execUnimpl7C (s : State) : Host.Outcome State Fault Refusal := raiseForBase 0x7C s
/-- `UNIMPL_7D` (R96). -/
def execUnimpl7D (s : State) : Host.Outcome State Fault Refusal := raiseForBase 0x7D s
/-- `UNIMPL_7E` (R96). -/
def execUnimpl7E (s : State) : Host.Outcome State Fault Refusal := raiseForBase 0x7E s
/-- `UNIMPL_7F` (R96). -/
def execUnimpl7F (s : State) : Host.Outcome State Fault Refusal := raiseForBase 0x7F s
/-- `UNIMPL_80` (R96). -/
def execUnimpl80 (s : State) : Host.Outcome State Fault Refusal := raiseForBase 0x80 s
/-- `UNIMPL_81` (R96). -/
def execUnimpl81 (s : State) : Host.Outcome State Fault Refusal := raiseForBase 0x81 s
/-- `UNIMPL_82` (R96). -/
def execUnimpl82 (s : State) : Host.Outcome State Fault Refusal := raiseForBase 0x82 s
/-- `UNIMPL_83` (R96). -/
def execUnimpl83 (s : State) : Host.Outcome State Fault Refusal := raiseForBase 0x83 s
/-- `UNIMPL_84` (R96). -/
def execUnimpl84 (s : State) : Host.Outcome State Fault Refusal := raiseForBase 0x84 s
/-- `UNIMPL_85` (R96). -/
def execUnimpl85 (s : State) : Host.Outcome State Fault Refusal := raiseForBase 0x85 s
/-- `UNIMPL_86` (R96). -/
def execUnimpl86 (s : State) : Host.Outcome State Fault Refusal := raiseForBase 0x86 s
/-- `UNIMPL_87` (R96). -/
def execUnimpl87 (s : State) : Host.Outcome State Fault Refusal := raiseForBase 0x87 s
/-- `UNIMPL_88` (R96). -/
def execUnimpl88 (s : State) : Host.Outcome State Fault Refusal := raiseForBase 0x88 s
/-- `UNIMPL_89` (R96). -/
def execUnimpl89 (s : State) : Host.Outcome State Fault Refusal := raiseForBase 0x89 s
/-- `UNIMPL_8A` (R96). -/
def execUnimpl8A (s : State) : Host.Outcome State Fault Refusal := raiseForBase 0x8A s
/-- `UNIMPL_8B` (R96). -/
def execUnimpl8B (s : State) : Host.Outcome State Fault Refusal := raiseForBase 0x8B s
/-- `UNIMPL_8C` (R96). -/
def execUnimpl8C (s : State) : Host.Outcome State Fault Refusal := raiseForBase 0x8C s
/-- `UNIMPL_8D` (R96). -/
def execUnimpl8D (s : State) : Host.Outcome State Fault Refusal := raiseForBase 0x8D s
/-- `UNIMPL_8E` (R96). -/
def execUnimpl8E (s : State) : Host.Outcome State Fault Refusal := raiseForBase 0x8E s
/-- `UNIMPL_8F` (R96). -/
def execUnimpl8F (s : State) : Host.Outcome State Fault Refusal := raiseForBase 0x8F s
/-- `UNIMPL_90` (R96). -/
def execUnimpl90 (s : State) : Host.Outcome State Fault Refusal := raiseForBase 0x90 s
/-- `UNIMPL_91` (R96). -/
def execUnimpl91 (s : State) : Host.Outcome State Fault Refusal := raiseForBase 0x91 s
/-- `UNIMPL_92` (R96). -/
def execUnimpl92 (s : State) : Host.Outcome State Fault Refusal := raiseForBase 0x92 s
/-- `UNIMPL_93` (R96). -/
def execUnimpl93 (s : State) : Host.Outcome State Fault Refusal := raiseForBase 0x93 s
/-- `UNIMPL_94` (R96). -/
def execUnimpl94 (s : State) : Host.Outcome State Fault Refusal := raiseForBase 0x94 s
/-- `UNIMPL_95` (R96). -/
def execUnimpl95 (s : State) : Host.Outcome State Fault Refusal := raiseForBase 0x95 s
/-- `UNIMPL_96` (R96). -/
def execUnimpl96 (s : State) : Host.Outcome State Fault Refusal := raiseForBase 0x96 s
/-- `UNIMPL_97` (R96). -/
def execUnimpl97 (s : State) : Host.Outcome State Fault Refusal := raiseForBase 0x97 s
/-- `UNIMPL_98` (R96). -/
def execUnimpl98 (s : State) : Host.Outcome State Fault Refusal := raiseForBase 0x98 s
/-- `UNIMPL_99` (R96). -/
def execUnimpl99 (s : State) : Host.Outcome State Fault Refusal := raiseForBase 0x99 s
/-- `UNIMPL_9A` (R96). -/
def execUnimpl9A (s : State) : Host.Outcome State Fault Refusal := raiseForBase 0x9A s
/-- `UNIMPL_9B` (R96). -/
def execUnimpl9B (s : State) : Host.Outcome State Fault Refusal := raiseForBase 0x9B s
/-- `UNIMPL_9C` (R96). -/
def execUnimpl9C (s : State) : Host.Outcome State Fault Refusal := raiseForBase 0x9C s
/-- `UNIMPL_9D` (R96). -/
def execUnimpl9D (s : State) : Host.Outcome State Fault Refusal := raiseForBase 0x9D s
/-- `UNIMPL_9E` (R96). -/
def execUnimpl9E (s : State) : Host.Outcome State Fault Refusal := raiseForBase 0x9E s
/-- `UNIMPL_9F` (R96). -/
def execUnimpl9F (s : State) : Host.Outcome State Fault Refusal := raiseForBase 0x9F s
/-- `UNIMPL_A0` (R96). -/
def execUnimplA0 (s : State) : Host.Outcome State Fault Refusal := raiseForBase 0xA0 s
/-- `UNIMPL_A1` (R96). -/
def execUnimplA1 (s : State) : Host.Outcome State Fault Refusal := raiseForBase 0xA1 s
/-- `UNIMPL_A2` (R96). -/
def execUnimplA2 (s : State) : Host.Outcome State Fault Refusal := raiseForBase 0xA2 s
/-- `UNIMPL_A3` (R96). -/
def execUnimplA3 (s : State) : Host.Outcome State Fault Refusal := raiseForBase 0xA3 s
/-- `UNIMPL_A4` (R96). -/
def execUnimplA4 (s : State) : Host.Outcome State Fault Refusal := raiseForBase 0xA4 s
/-- `UNIMPL_A5` (R96). -/
def execUnimplA5 (s : State) : Host.Outcome State Fault Refusal := raiseForBase 0xA5 s
/-- `UNIMPL_A6` (R96). -/
def execUnimplA6 (s : State) : Host.Outcome State Fault Refusal := raiseForBase 0xA6 s
/-- `UNIMPL_A7` (R96). -/
def execUnimplA7 (s : State) : Host.Outcome State Fault Refusal := raiseForBase 0xA7 s
/-- `UNIMPL_A8` (R96). -/
def execUnimplA8 (s : State) : Host.Outcome State Fault Refusal := raiseForBase 0xA8 s
/-- `UNIMPL_A9` (R96). -/
def execUnimplA9 (s : State) : Host.Outcome State Fault Refusal := raiseForBase 0xA9 s
/-- `UNIMPL_AA` (R96). -/
def execUnimplAA (s : State) : Host.Outcome State Fault Refusal := raiseForBase 0xAA s
/-- `UNIMPL_AB` (R96). -/
def execUnimplAB (s : State) : Host.Outcome State Fault Refusal := raiseForBase 0xAB s
/-- `UNIMPL_AC` (R96). -/
def execUnimplAC (s : State) : Host.Outcome State Fault Refusal := raiseForBase 0xAC s
/-- `UNIMPL_AD` (R96). -/
def execUnimplAD (s : State) : Host.Outcome State Fault Refusal := raiseForBase 0xAD s
/-- `UNIMPL_AE` (R96). -/
def execUnimplAE (s : State) : Host.Outcome State Fault Refusal := raiseForBase 0xAE s
/-- `UNIMPL_B0` (R96). -/
def execUnimplB0 (s : State) : Host.Outcome State Fault Refusal := raiseForBase 0xB0 s
/-- `UNIMPL_B1` (R96). -/
def execUnimplB1 (s : State) : Host.Outcome State Fault Refusal := raiseForBase 0xB1 s
/-- `UNIMPL_B2` (R96). -/
def execUnimplB2 (s : State) : Host.Outcome State Fault Refusal := raiseForBase 0xB2 s
/-- `UNIMPL_B3` (R96). -/
def execUnimplB3 (s : State) : Host.Outcome State Fault Refusal := raiseForBase 0xB3 s
/-- `UNIMPL_B4` (R96). -/
def execUnimplB4 (s : State) : Host.Outcome State Fault Refusal := raiseForBase 0xB4 s
/-- `UNIMPL_B5` (R96). -/
def execUnimplB5 (s : State) : Host.Outcome State Fault Refusal := raiseForBase 0xB5 s
/-- `UNIMPL_B6` (R96). -/
def execUnimplB6 (s : State) : Host.Outcome State Fault Refusal := raiseForBase 0xB6 s
/-- `UNIMPL_B7` (R96). -/
def execUnimplB7 (s : State) : Host.Outcome State Fault Refusal := raiseForBase 0xB7 s
/-- `UNIMPL_B8` (R96). -/
def execUnimplB8 (s : State) : Host.Outcome State Fault Refusal := raiseForBase 0xB8 s
/-- `UNIMPL_B9` (R96). -/
def execUnimplB9 (s : State) : Host.Outcome State Fault Refusal := raiseForBase 0xB9 s
/-- `UNIMPL_BA` (R96). -/
def execUnimplBA (s : State) : Host.Outcome State Fault Refusal := raiseForBase 0xBA s
/-- `UNIMPL_BB` (R96). -/
def execUnimplBB (s : State) : Host.Outcome State Fault Refusal := raiseForBase 0xBB s
/-- `UNIMPL_BC` (R96). -/
def execUnimplBC (s : State) : Host.Outcome State Fault Refusal := raiseForBase 0xBC s
/-- `UNIMPL_BD` (R96). -/
def execUnimplBD (s : State) : Host.Outcome State Fault Refusal := raiseForBase 0xBD s
/-- `UNIMPL_BE` (R96). -/
def execUnimplBE (s : State) : Host.Outcome State Fault Refusal := raiseForBase 0xBE s
/-- `UNIMPL_BF` (R96). -/
def execUnimplBF (s : State) : Host.Outcome State Fault Refusal := raiseForBase 0xBF s
/-- `UNIMPL_C0` (R96). -/
def execUnimplC0 (s : State) : Host.Outcome State Fault Refusal := raiseForBase 0xC0 s
/-- `UNIMPL_C1` (R96). -/
def execUnimplC1 (s : State) : Host.Outcome State Fault Refusal := raiseForBase 0xC1 s
/-- `UNIMPL_C2` (R96). -/
def execUnimplC2 (s : State) : Host.Outcome State Fault Refusal := raiseForBase 0xC2 s
/-- `UNIMPL_C3` (R96). -/
def execUnimplC3 (s : State) : Host.Outcome State Fault Refusal := raiseForBase 0xC3 s
/-- `UNIMPL_C4` (R96). -/
def execUnimplC4 (s : State) : Host.Outcome State Fault Refusal := raiseForBase 0xC4 s
/-- `UNIMPL_C5` (R96). -/
def execUnimplC5 (s : State) : Host.Outcome State Fault Refusal := raiseForBase 0xC5 s
/-- `UNIMPL_C6` (R96). -/
def execUnimplC6 (s : State) : Host.Outcome State Fault Refusal := raiseForBase 0xC6 s
/-- `UNIMPL_C7` (R96). -/
def execUnimplC7 (s : State) : Host.Outcome State Fault Refusal := raiseForBase 0xC7 s
/-- `UNIMPL_C8` (R96). -/
def execUnimplC8 (s : State) : Host.Outcome State Fault Refusal := raiseForBase 0xC8 s
/-- `UNIMPL_C9` (R96). -/
def execUnimplC9 (s : State) : Host.Outcome State Fault Refusal := raiseForBase 0xC9 s
/-- `UNIMPL_CA` (R96). -/
def execUnimplCA (s : State) : Host.Outcome State Fault Refusal := raiseForBase 0xCA s
/-- `UNIMPL_CC` (R96). -/
def execUnimplCC (s : State) : Host.Outcome State Fault Refusal := raiseForBase 0xCC s
/-- `UNIMPL_CD` (R96). -/
def execUnimplCD (s : State) : Host.Outcome State Fault Refusal := raiseForBase 0xCD s
/-- `UNIMPL_CE` (R96). -/
def execUnimplCE (s : State) : Host.Outcome State Fault Refusal := raiseForBase 0xCE s
/-- `UNIMPL_CF` (R96). -/
def execUnimplCF (s : State) : Host.Outcome State Fault Refusal := raiseForBase 0xCF s
/-- `UNIMPL_D0` (R96). -/
def execUnimplD0 (s : State) : Host.Outcome State Fault Refusal := raiseForBase 0xD0 s
/-- `UNIMPL_D1` (R96). -/
def execUnimplD1 (s : State) : Host.Outcome State Fault Refusal := raiseForBase 0xD1 s
/-- `UNIMPL_D2` (R96). -/
def execUnimplD2 (s : State) : Host.Outcome State Fault Refusal := raiseForBase 0xD2 s
/-- `UNIMPL_D3` (R96). -/
def execUnimplD3 (s : State) : Host.Outcome State Fault Refusal := raiseForBase 0xD3 s
/-- `UNIMPL_D4` (R96). -/
def execUnimplD4 (s : State) : Host.Outcome State Fault Refusal := raiseForBase 0xD4 s
/-- `UNIMPL_D5` (R96). -/
def execUnimplD5 (s : State) : Host.Outcome State Fault Refusal := raiseForBase 0xD5 s
/-- `UNIMPL_D6` (R96). -/
def execUnimplD6 (s : State) : Host.Outcome State Fault Refusal := raiseForBase 0xD6 s
/-- `UNIMPL_D7` (R96). -/
def execUnimplD7 (s : State) : Host.Outcome State Fault Refusal := raiseForBase 0xD7 s
/-- `UNIMPL_D8` (R96). -/
def execUnimplD8 (s : State) : Host.Outcome State Fault Refusal := raiseForBase 0xD8 s
/-- `UNIMPL_D9` (R96). -/
def execUnimplD9 (s : State) : Host.Outcome State Fault Refusal := raiseForBase 0xD9 s
/-- `UNIMPL_DA` (R96). -/
def execUnimplDA (s : State) : Host.Outcome State Fault Refusal := raiseForBase 0xDA s
/-- `UNIMPL_DB` (R96). -/
def execUnimplDB (s : State) : Host.Outcome State Fault Refusal := raiseForBase 0xDB s
/-- `UNIMPL_DC` (R96). -/
def execUnimplDC (s : State) : Host.Outcome State Fault Refusal := raiseForBase 0xDC s
/-- `UNIMPL_DD` (R96). -/
def execUnimplDD (s : State) : Host.Outcome State Fault Refusal := raiseForBase 0xDD s
/-- `UNIMPL_DE` (R96). -/
def execUnimplDE (s : State) : Host.Outcome State Fault Refusal := raiseForBase 0xDE s
/-- `UNIMPL_DF` (R96). -/
def execUnimplDF (s : State) : Host.Outcome State Fault Refusal := raiseForBase 0xDF s
/-- `UNIMPL_E0` (R96). -/
def execUnimplE0 (s : State) : Host.Outcome State Fault Refusal := raiseForBase 0xE0 s
/-- `UNIMPL_E1` (R96). -/
def execUnimplE1 (s : State) : Host.Outcome State Fault Refusal := raiseForBase 0xE1 s
/-- `UNIMPL_E2` (R96). -/
def execUnimplE2 (s : State) : Host.Outcome State Fault Refusal := raiseForBase 0xE2 s
/-- `UNIMPL_E3` (R96). -/
def execUnimplE3 (s : State) : Host.Outcome State Fault Refusal := raiseForBase 0xE3 s
/-- `UNIMPL_E4` (R96). -/
def execUnimplE4 (s : State) : Host.Outcome State Fault Refusal := raiseForBase 0xE4 s
/-- `UNIMPL_E5` (R96). -/
def execUnimplE5 (s : State) : Host.Outcome State Fault Refusal := raiseForBase 0xE5 s
/-- `UNIMPL_E6` (R96). -/
def execUnimplE6 (s : State) : Host.Outcome State Fault Refusal := raiseForBase 0xE6 s
/-- `UNIMPL_E7` (R96). -/
def execUnimplE7 (s : State) : Host.Outcome State Fault Refusal := raiseForBase 0xE7 s
/-- `UNIMPL_E8` (R96). -/
def execUnimplE8 (s : State) : Host.Outcome State Fault Refusal := raiseForBase 0xE8 s
/-- `UNIMPL_E9` (R96). -/
def execUnimplE9 (s : State) : Host.Outcome State Fault Refusal := raiseForBase 0xE9 s
/-- `UNIMPL_EA` (R96). -/
def execUnimplEA (s : State) : Host.Outcome State Fault Refusal := raiseForBase 0xEA s
/-- `UNIMPL_EB` (R96). -/
def execUnimplEB (s : State) : Host.Outcome State Fault Refusal := raiseForBase 0xEB s
/-- `UNIMPL_EC` (R96). -/
def execUnimplEC (s : State) : Host.Outcome State Fault Refusal := raiseForBase 0xEC s
/-- `UNIMPL_ED` (R96). -/
def execUnimplED (s : State) : Host.Outcome State Fault Refusal := raiseForBase 0xED s
/-- `UNIMPL_EE` (R96). -/
def execUnimplEE (s : State) : Host.Outcome State Fault Refusal := raiseForBase 0xEE s
/-- `UNIMPL_EF` (R96). -/
def execUnimplEF (s : State) : Host.Outcome State Fault Refusal := raiseForBase 0xEF s
/-- `UNIMPL_F0` (R96). -/
def execUnimplF0 (s : State) : Host.Outcome State Fault Refusal := raiseForBase 0xF0 s
/-- `UNIMPL_F1` (R96). -/
def execUnimplF1 (s : State) : Host.Outcome State Fault Refusal := raiseForBase 0xF1 s
/-- `UNIMPL_F2` (R96). -/
def execUnimplF2 (s : State) : Host.Outcome State Fault Refusal := raiseForBase 0xF2 s
/-- `UNIMPL_F3` (R96). -/
def execUnimplF3 (s : State) : Host.Outcome State Fault Refusal := raiseForBase 0xF3 s
/-- `UNIMPL_F4` (R96). -/
def execUnimplF4 (s : State) : Host.Outcome State Fault Refusal := raiseForBase 0xF4 s
/-- `UNIMPL_F5` (R96). -/
def execUnimplF5 (s : State) : Host.Outcome State Fault Refusal := raiseForBase 0xF5 s
/-- `UNIMPL_F6` (R96). -/
def execUnimplF6 (s : State) : Host.Outcome State Fault Refusal := raiseForBase 0xF6 s
/-- `UNIMPL_F7` (R96). -/
def execUnimplF7 (s : State) : Host.Outcome State Fault Refusal := raiseForBase 0xF7 s
/-- `UNIMPL_F8` (R96). -/
def execUnimplF8 (s : State) : Host.Outcome State Fault Refusal := raiseForBase 0xF8 s
/-- `UNIMPL_F9` (R96). -/
def execUnimplF9 (s : State) : Host.Outcome State Fault Refusal := raiseForBase 0xF9 s
/-- `UNIMPL_FA` (R96). -/
def execUnimplFA (s : State) : Host.Outcome State Fault Refusal := raiseForBase 0xFA s
/-- `UNIMPL_FB` (R96). -/
def execUnimplFB (s : State) : Host.Outcome State Fault Refusal := raiseForBase 0xFB s
/-- `UNIMPL_FC` (R96). -/
def execUnimplFC (s : State) : Host.Outcome State Fault Refusal := raiseForBase 0xFC s
/-- `UNIMPL_FD` (R96). -/
def execUnimplFD (s : State) : Host.Outcome State Fault Refusal := raiseForBase 0xFD s
/-- `UNIMPL_FE` (R96). -/
def execUnimplFE (s : State) : Host.Outcome State Fault Refusal := raiseForBase 0xFE s
/-- `UNIMPL_FF` (R96). -/
def execUnimplFF (s : State) : Host.Outcome State Fault Refusal := raiseForBase 0xFF s

end Sys2Proof.Machine
end

