-- ==== Sys2Proof/Machine/Dispatch.lean ====
section
/-! DEFINITION. The dispatch (40_execution_cycle.md R74): exactly one meaning per instruction. On entry the fetch phase is
done: `ir` holds the base opcode (or the continuation byte) and `pc` is past it. -/

namespace Sys2Proof.Machine

def exec (i : Instr) (s : State) : Host.Outcome State Fault Refusal :=
  match i with
  | .unimpl00 => Sys2Proof.Machine.execUnimpl00 s
  | .unimpl01 => Sys2Proof.Machine.execUnimpl01 s
  | .unimpl02 => Sys2Proof.Machine.execUnimpl02 s
  | .unimpl03 => Sys2Proof.Machine.execUnimpl03 s
  | .unimpl04 => Sys2Proof.Machine.execUnimpl04 s
  | .unimpl05 => Sys2Proof.Machine.execUnimpl05 s
  | .unimpl06 => Sys2Proof.Machine.execUnimpl06 s
  | .unimpl07 => Sys2Proof.Machine.execUnimpl07 s
  | .unimpl08 => Sys2Proof.Machine.execUnimpl08 s
  | .unimpl09 => Sys2Proof.Machine.execUnimpl09 s
  | .unimpl0A => Sys2Proof.Machine.execUnimpl0A s
  | .unimpl0B => Sys2Proof.Machine.execUnimpl0B s
  | .unimpl0C => Sys2Proof.Machine.execUnimpl0C s
  | .unimpl0D => Sys2Proof.Machine.execUnimpl0D s
  | .unimpl0E => Sys2Proof.Machine.execUnimpl0E s
  | .unimpl0F => Sys2Proof.Machine.execUnimpl0F s
  | .unimpl10 => Sys2Proof.Machine.execUnimpl10 s
  | .unimpl11 => Sys2Proof.Machine.execUnimpl11 s
  | .unimpl12 => Sys2Proof.Machine.execUnimpl12 s
  | .unimpl13 => Sys2Proof.Machine.execUnimpl13 s
  | .unimpl14 => Sys2Proof.Machine.execUnimpl14 s
  | .unimpl15 => Sys2Proof.Machine.execUnimpl15 s
  | .unimpl16 => Sys2Proof.Machine.execUnimpl16 s
  | .unimpl17 => Sys2Proof.Machine.execUnimpl17 s
  | .unimpl18 => Sys2Proof.Machine.execUnimpl18 s
  | .unimpl19 => Sys2Proof.Machine.execUnimpl19 s
  | .unimpl1A => Sys2Proof.Machine.execUnimpl1A s
  | .unimpl1B => Sys2Proof.Machine.execUnimpl1B s
  | .unimpl1C => Sys2Proof.Machine.execUnimpl1C s
  | .unimpl1D => Sys2Proof.Machine.execUnimpl1D s
  | .unimpl1E => Sys2Proof.Machine.execUnimpl1E s
  | .unimpl1F => Sys2Proof.Machine.execUnimpl1F s
  | .unimpl20 => Sys2Proof.Machine.execUnimpl20 s
  | .ldHlD16 d16 => Sys2Proof.Machine.execLdHlD16 d16 s
  | .unimpl22 => Sys2Proof.Machine.execUnimpl22 s
  | .unimpl23 => Sys2Proof.Machine.execUnimpl23 s
  | .unimpl24 => Sys2Proof.Machine.execUnimpl24 s
  | .unimpl25 => Sys2Proof.Machine.execUnimpl25 s
  | .unimpl26 => Sys2Proof.Machine.execUnimpl26 s
  | .unimpl27 => Sys2Proof.Machine.execUnimpl27 s
  | .unimpl28 => Sys2Proof.Machine.execUnimpl28 s
  | .unimpl29 => Sys2Proof.Machine.execUnimpl29 s
  | .unimpl2A => Sys2Proof.Machine.execUnimpl2A s
  | .unimpl2B => Sys2Proof.Machine.execUnimpl2B s
  | .unimpl2C => Sys2Proof.Machine.execUnimpl2C s
  | .unimpl2D => Sys2Proof.Machine.execUnimpl2D s
  | .unimpl2E => Sys2Proof.Machine.execUnimpl2E s
  | .unimpl2F => Sys2Proof.Machine.execUnimpl2F s
  | .unimpl30 => Sys2Proof.Machine.execUnimpl30 s
  | .ldSpD16 d16 => Sys2Proof.Machine.execLdSpD16 d16 s
  | .ldHldA => Sys2Proof.Machine.execLdHldA s
  | .unimpl33 => Sys2Proof.Machine.execUnimpl33 s
  | .unimpl34 => Sys2Proof.Machine.execUnimpl34 s
  | .unimpl35 => Sys2Proof.Machine.execUnimpl35 s
  | .unimpl36 => Sys2Proof.Machine.execUnimpl36 s
  | .unimpl37 => Sys2Proof.Machine.execUnimpl37 s
  | .unimpl38 => Sys2Proof.Machine.execUnimpl38 s
  | .unimpl39 => Sys2Proof.Machine.execUnimpl39 s
  | .unimpl3A => Sys2Proof.Machine.execUnimpl3A s
  | .unimpl3B => Sys2Proof.Machine.execUnimpl3B s
  | .unimpl3C => Sys2Proof.Machine.execUnimpl3C s
  | .unimpl3D => Sys2Proof.Machine.execUnimpl3D s
  | .unimpl3E => Sys2Proof.Machine.execUnimpl3E s
  | .unimpl3F => Sys2Proof.Machine.execUnimpl3F s
  | .unimpl40 => Sys2Proof.Machine.execUnimpl40 s
  | .unimpl41 => Sys2Proof.Machine.execUnimpl41 s
  | .unimpl42 => Sys2Proof.Machine.execUnimpl42 s
  | .unimpl43 => Sys2Proof.Machine.execUnimpl43 s
  | .unimpl44 => Sys2Proof.Machine.execUnimpl44 s
  | .unimpl45 => Sys2Proof.Machine.execUnimpl45 s
  | .unimpl46 => Sys2Proof.Machine.execUnimpl46 s
  | .unimpl47 => Sys2Proof.Machine.execUnimpl47 s
  | .unimpl48 => Sys2Proof.Machine.execUnimpl48 s
  | .unimpl49 => Sys2Proof.Machine.execUnimpl49 s
  | .unimpl4A => Sys2Proof.Machine.execUnimpl4A s
  | .unimpl4B => Sys2Proof.Machine.execUnimpl4B s
  | .unimpl4C => Sys2Proof.Machine.execUnimpl4C s
  | .unimpl4D => Sys2Proof.Machine.execUnimpl4D s
  | .unimpl4E => Sys2Proof.Machine.execUnimpl4E s
  | .unimpl4F => Sys2Proof.Machine.execUnimpl4F s
  | .unimpl50 => Sys2Proof.Machine.execUnimpl50 s
  | .unimpl51 => Sys2Proof.Machine.execUnimpl51 s
  | .unimpl52 => Sys2Proof.Machine.execUnimpl52 s
  | .unimpl53 => Sys2Proof.Machine.execUnimpl53 s
  | .unimpl54 => Sys2Proof.Machine.execUnimpl54 s
  | .unimpl55 => Sys2Proof.Machine.execUnimpl55 s
  | .unimpl56 => Sys2Proof.Machine.execUnimpl56 s
  | .unimpl57 => Sys2Proof.Machine.execUnimpl57 s
  | .unimpl58 => Sys2Proof.Machine.execUnimpl58 s
  | .unimpl59 => Sys2Proof.Machine.execUnimpl59 s
  | .unimpl5A => Sys2Proof.Machine.execUnimpl5A s
  | .unimpl5B => Sys2Proof.Machine.execUnimpl5B s
  | .unimpl5C => Sys2Proof.Machine.execUnimpl5C s
  | .unimpl5D => Sys2Proof.Machine.execUnimpl5D s
  | .unimpl5E => Sys2Proof.Machine.execUnimpl5E s
  | .unimpl5F => Sys2Proof.Machine.execUnimpl5F s
  | .unimpl60 => Sys2Proof.Machine.execUnimpl60 s
  | .unimpl61 => Sys2Proof.Machine.execUnimpl61 s
  | .unimpl62 => Sys2Proof.Machine.execUnimpl62 s
  | .unimpl63 => Sys2Proof.Machine.execUnimpl63 s
  | .unimpl64 => Sys2Proof.Machine.execUnimpl64 s
  | .unimpl65 => Sys2Proof.Machine.execUnimpl65 s
  | .unimpl66 => Sys2Proof.Machine.execUnimpl66 s
  | .unimpl67 => Sys2Proof.Machine.execUnimpl67 s
  | .unimpl68 => Sys2Proof.Machine.execUnimpl68 s
  | .unimpl69 => Sys2Proof.Machine.execUnimpl69 s
  | .unimpl6A => Sys2Proof.Machine.execUnimpl6A s
  | .unimpl6B => Sys2Proof.Machine.execUnimpl6B s
  | .unimpl6C => Sys2Proof.Machine.execUnimpl6C s
  | .unimpl6D => Sys2Proof.Machine.execUnimpl6D s
  | .unimpl6E => Sys2Proof.Machine.execUnimpl6E s
  | .unimpl6F => Sys2Proof.Machine.execUnimpl6F s
  | .unimpl70 => Sys2Proof.Machine.execUnimpl70 s
  | .unimpl71 => Sys2Proof.Machine.execUnimpl71 s
  | .unimpl72 => Sys2Proof.Machine.execUnimpl72 s
  | .unimpl73 => Sys2Proof.Machine.execUnimpl73 s
  | .unimpl74 => Sys2Proof.Machine.execUnimpl74 s
  | .unimpl75 => Sys2Proof.Machine.execUnimpl75 s
  | .unimpl76 => Sys2Proof.Machine.execUnimpl76 s
  | .unimpl77 => Sys2Proof.Machine.execUnimpl77 s
  | .unimpl78 => Sys2Proof.Machine.execUnimpl78 s
  | .unimpl79 => Sys2Proof.Machine.execUnimpl79 s
  | .unimpl7A => Sys2Proof.Machine.execUnimpl7A s
  | .unimpl7B => Sys2Proof.Machine.execUnimpl7B s
  | .unimpl7C => Sys2Proof.Machine.execUnimpl7C s
  | .unimpl7D => Sys2Proof.Machine.execUnimpl7D s
  | .unimpl7E => Sys2Proof.Machine.execUnimpl7E s
  | .unimpl7F => Sys2Proof.Machine.execUnimpl7F s
  | .unimpl80 => Sys2Proof.Machine.execUnimpl80 s
  | .unimpl81 => Sys2Proof.Machine.execUnimpl81 s
  | .unimpl82 => Sys2Proof.Machine.execUnimpl82 s
  | .unimpl83 => Sys2Proof.Machine.execUnimpl83 s
  | .unimpl84 => Sys2Proof.Machine.execUnimpl84 s
  | .unimpl85 => Sys2Proof.Machine.execUnimpl85 s
  | .unimpl86 => Sys2Proof.Machine.execUnimpl86 s
  | .unimpl87 => Sys2Proof.Machine.execUnimpl87 s
  | .unimpl88 => Sys2Proof.Machine.execUnimpl88 s
  | .unimpl89 => Sys2Proof.Machine.execUnimpl89 s
  | .unimpl8A => Sys2Proof.Machine.execUnimpl8A s
  | .unimpl8B => Sys2Proof.Machine.execUnimpl8B s
  | .unimpl8C => Sys2Proof.Machine.execUnimpl8C s
  | .unimpl8D => Sys2Proof.Machine.execUnimpl8D s
  | .unimpl8E => Sys2Proof.Machine.execUnimpl8E s
  | .unimpl8F => Sys2Proof.Machine.execUnimpl8F s
  | .unimpl90 => Sys2Proof.Machine.execUnimpl90 s
  | .unimpl91 => Sys2Proof.Machine.execUnimpl91 s
  | .unimpl92 => Sys2Proof.Machine.execUnimpl92 s
  | .unimpl93 => Sys2Proof.Machine.execUnimpl93 s
  | .unimpl94 => Sys2Proof.Machine.execUnimpl94 s
  | .unimpl95 => Sys2Proof.Machine.execUnimpl95 s
  | .unimpl96 => Sys2Proof.Machine.execUnimpl96 s
  | .unimpl97 => Sys2Proof.Machine.execUnimpl97 s
  | .unimpl98 => Sys2Proof.Machine.execUnimpl98 s
  | .unimpl99 => Sys2Proof.Machine.execUnimpl99 s
  | .unimpl9A => Sys2Proof.Machine.execUnimpl9A s
  | .unimpl9B => Sys2Proof.Machine.execUnimpl9B s
  | .unimpl9C => Sys2Proof.Machine.execUnimpl9C s
  | .unimpl9D => Sys2Proof.Machine.execUnimpl9D s
  | .unimpl9E => Sys2Proof.Machine.execUnimpl9E s
  | .unimpl9F => Sys2Proof.Machine.execUnimpl9F s
  | .unimplA0 => Sys2Proof.Machine.execUnimplA0 s
  | .unimplA1 => Sys2Proof.Machine.execUnimplA1 s
  | .unimplA2 => Sys2Proof.Machine.execUnimplA2 s
  | .unimplA3 => Sys2Proof.Machine.execUnimplA3 s
  | .unimplA4 => Sys2Proof.Machine.execUnimplA4 s
  | .unimplA5 => Sys2Proof.Machine.execUnimplA5 s
  | .unimplA6 => Sys2Proof.Machine.execUnimplA6 s
  | .unimplA7 => Sys2Proof.Machine.execUnimplA7 s
  | .unimplA8 => Sys2Proof.Machine.execUnimplA8 s
  | .unimplA9 => Sys2Proof.Machine.execUnimplA9 s
  | .unimplAA => Sys2Proof.Machine.execUnimplAA s
  | .unimplAB => Sys2Proof.Machine.execUnimplAB s
  | .unimplAC => Sys2Proof.Machine.execUnimplAC s
  | .unimplAD => Sys2Proof.Machine.execUnimplAD s
  | .unimplAE => Sys2Proof.Machine.execUnimplAE s
  | .xorA => Sys2Proof.Machine.execXorA s
  | .unimplB0 => Sys2Proof.Machine.execUnimplB0 s
  | .unimplB1 => Sys2Proof.Machine.execUnimplB1 s
  | .unimplB2 => Sys2Proof.Machine.execUnimplB2 s
  | .unimplB3 => Sys2Proof.Machine.execUnimplB3 s
  | .unimplB4 => Sys2Proof.Machine.execUnimplB4 s
  | .unimplB5 => Sys2Proof.Machine.execUnimplB5 s
  | .unimplB6 => Sys2Proof.Machine.execUnimplB6 s
  | .unimplB7 => Sys2Proof.Machine.execUnimplB7 s
  | .unimplB8 => Sys2Proof.Machine.execUnimplB8 s
  | .unimplB9 => Sys2Proof.Machine.execUnimplB9 s
  | .unimplBA => Sys2Proof.Machine.execUnimplBA s
  | .unimplBB => Sys2Proof.Machine.execUnimplBB s
  | .unimplBC => Sys2Proof.Machine.execUnimplBC s
  | .unimplBD => Sys2Proof.Machine.execUnimplBD s
  | .unimplBE => Sys2Proof.Machine.execUnimplBE s
  | .unimplBF => Sys2Proof.Machine.execUnimplBF s
  | .unimplC0 => Sys2Proof.Machine.execUnimplC0 s
  | .unimplC1 => Sys2Proof.Machine.execUnimplC1 s
  | .unimplC2 => Sys2Proof.Machine.execUnimplC2 s
  | .unimplC3 => Sys2Proof.Machine.execUnimplC3 s
  | .unimplC4 => Sys2Proof.Machine.execUnimplC4 s
  | .unimplC5 => Sys2Proof.Machine.execUnimplC5 s
  | .unimplC6 => Sys2Proof.Machine.execUnimplC6 s
  | .unimplC7 => Sys2Proof.Machine.execUnimplC7 s
  | .unimplC8 => Sys2Proof.Machine.execUnimplC8 s
  | .unimplC9 => Sys2Proof.Machine.execUnimplC9 s
  | .unimplCA => Sys2Proof.Machine.execUnimplCA s
  | .cbXx ext => Sys2Proof.Machine.execCbXx ext s
  | .unimplCC => Sys2Proof.Machine.execUnimplCC s
  | .unimplCD => Sys2Proof.Machine.execUnimplCD s
  | .unimplCE => Sys2Proof.Machine.execUnimplCE s
  | .unimplCF => Sys2Proof.Machine.execUnimplCF s
  | .unimplD0 => Sys2Proof.Machine.execUnimplD0 s
  | .unimplD1 => Sys2Proof.Machine.execUnimplD1 s
  | .unimplD2 => Sys2Proof.Machine.execUnimplD2 s
  | .unimplD3 => Sys2Proof.Machine.execUnimplD3 s
  | .unimplD4 => Sys2Proof.Machine.execUnimplD4 s
  | .unimplD5 => Sys2Proof.Machine.execUnimplD5 s
  | .unimplD6 => Sys2Proof.Machine.execUnimplD6 s
  | .unimplD7 => Sys2Proof.Machine.execUnimplD7 s
  | .unimplD8 => Sys2Proof.Machine.execUnimplD8 s
  | .unimplD9 => Sys2Proof.Machine.execUnimplD9 s
  | .unimplDA => Sys2Proof.Machine.execUnimplDA s
  | .unimplDB => Sys2Proof.Machine.execUnimplDB s
  | .unimplDC => Sys2Proof.Machine.execUnimplDC s
  | .unimplDD => Sys2Proof.Machine.execUnimplDD s
  | .unimplDE => Sys2Proof.Machine.execUnimplDE s
  | .unimplDF => Sys2Proof.Machine.execUnimplDF s
  | .unimplE0 => Sys2Proof.Machine.execUnimplE0 s
  | .unimplE1 => Sys2Proof.Machine.execUnimplE1 s
  | .unimplE2 => Sys2Proof.Machine.execUnimplE2 s
  | .unimplE3 => Sys2Proof.Machine.execUnimplE3 s
  | .unimplE4 => Sys2Proof.Machine.execUnimplE4 s
  | .unimplE5 => Sys2Proof.Machine.execUnimplE5 s
  | .unimplE6 => Sys2Proof.Machine.execUnimplE6 s
  | .unimplE7 => Sys2Proof.Machine.execUnimplE7 s
  | .unimplE8 => Sys2Proof.Machine.execUnimplE8 s
  | .unimplE9 => Sys2Proof.Machine.execUnimplE9 s
  | .unimplEA => Sys2Proof.Machine.execUnimplEA s
  | .unimplEB => Sys2Proof.Machine.execUnimplEB s
  | .unimplEC => Sys2Proof.Machine.execUnimplEC s
  | .unimplED => Sys2Proof.Machine.execUnimplED s
  | .unimplEE => Sys2Proof.Machine.execUnimplEE s
  | .unimplEF => Sys2Proof.Machine.execUnimplEF s
  | .unimplF0 => Sys2Proof.Machine.execUnimplF0 s
  | .unimplF1 => Sys2Proof.Machine.execUnimplF1 s
  | .unimplF2 => Sys2Proof.Machine.execUnimplF2 s
  | .unimplF3 => Sys2Proof.Machine.execUnimplF3 s
  | .unimplF4 => Sys2Proof.Machine.execUnimplF4 s
  | .unimplF5 => Sys2Proof.Machine.execUnimplF5 s
  | .unimplF6 => Sys2Proof.Machine.execUnimplF6 s
  | .unimplF7 => Sys2Proof.Machine.execUnimplF7 s
  | .unimplF8 => Sys2Proof.Machine.execUnimplF8 s
  | .unimplF9 => Sys2Proof.Machine.execUnimplF9 s
  | .unimplFA => Sys2Proof.Machine.execUnimplFA s
  | .unimplFB => Sys2Proof.Machine.execUnimplFB s
  | .unimplFC => Sys2Proof.Machine.execUnimplFC s
  | .unimplFD => Sys2Proof.Machine.execUnimplFD s
  | .unimplFE => Sys2Proof.Machine.execUnimplFE s
  | .unimplFF => Sys2Proof.Machine.execUnimplFF s

end Sys2Proof.Machine
end

