-- ==== Sys2Proof/Machine/Step.lean ====
section
/-! DEFINITION. One step of the machine (40_execution_cycle.md R70), and the placing of an instruction where the next step
fetches it. -/

namespace Sys2Proof.Machine

/-- One step: decode the bytes at `pc`, do the fetch phase (R71 to R73), dispatch (R74). -/
def step (s : State) : Host.Outcome State Fault Refusal :=
  match decode (instructionBytes s) with
  | .ok (i, _) => exec i (fetchPhase s)
  | .error e => .refused (.undecodable e)

/-- `s` with an opcode-table word placed at `pc`, so that the next step runs it; where one of the three addresses has no
storage, at 0x0000 with `pc` there (log entry 7). -/
def State.withFetchWord (s : State) (nbits w : Nat) : State :=
  placeInstruction (tableWordBytes nbits w) s

end Sys2Proof.Machine
end

