-- ==== Sys2Proof/Machine/Cycle.lean ====
section
/-! DEFINITION. `Step()` of 40_execution_cycle.md R70 written byte by byte as its pseudocode is, with the bodies of R80,
R81, R86, R90, R95 and R96 beside it: operand bytes are read one at a time at the `pc` reached, `pc0` is remembered, and
the dispatch is on `ir`. The machine's `step` decodes first and then runs a meaning; that the two agree in every state is
a statement for the provers. -/

namespace Sys2Proof.Machine

/-- `Exec_LD_SP_d16()` (41_load_imm16.md R80). -/
def cycleLdSp (s : State) : State :=
  ((fetch16 s).2.setSp (fetch16 s).1).report (.executed .ldSpD16)

/-- `Exec_LD_HL_d16()` (41_load_imm16.md R81). -/
def cycleLdHl (s : State) : State :=
  (writePair .hl (fetch16 s).1 (fetch16 s).2).report (.executed .ldHlD16)

/-- `Exec_XOR_A()` (42_alu_flags.md R86). -/
def cycleXorA (s : State) : State :=
  (setFlags true false false false (s.setA (s.a ^^^ s.a))).report (.executed .xorA)

/-- `Exec_LD_HLD_A()` (43_store_hld.md R90). -/
def cycleLdHld (s : State) : State :=
  (writePair .hl (readPair .hl s - 1) (s.store (readPair .hl s) s.a)).report (.executed .ldHldA)

/-- `raise UnimplementedOpcode(prefixed, opcode, pc0)` (60_exceptions.md R100). -/
def cycleRaise (prefixed : Bool) (opcode : Byte) (pc0 : Word) (s : State) : State :=
  s.report (.unimplementedOpcode ⟨prefixed, opcode, pc0⟩)

/-- Dispatch on the base opcode in `ir` (40_execution_cycle.md R74). -/
def cycleDispatch (pc0 : Word) (s : State) : State :=
  if s.ir = 0x31 then cycleLdSp s
  else if s.ir = 0x21 then cycleLdHl s
  else if s.ir = 0xAF then cycleXorA s
  else if s.ir = 0x32 then cycleLdHld s
  else cycleRaise false s.ir pc0 s

/-- `Step()` (40_execution_cycle.md R70), less the trace, which changes no state (R76). -/
def cycleStep (s : State) : State :=
  let s1 := fetchToIr s
  if s1.ir = cbPrefix then
    let s2 := fetchToIr s1
    cycleRaise true s2.ir s.pc s2
  else cycleDispatch s.pc s1

end Sys2Proof.Machine
end

