-- ==== Sys2Proof/Config.lean ====
section
/-! DEFINITION. What the spec leaves to the environment as a constant: only text. Everything else is fixed by the spec
(00_scope.md R5) or is an argument of the driver (R6: `ROM_IMAGE`, `RUN_STEPS`, `TRACE`, `PRESET`).
Both constants are opaque: nothing can be proved of the text they give, and no state depends on it. -/

namespace Sys2Proof

/-- `TRACE_FORMAT` (92_eei_decisions.md D12; 40_execution_cycle.md R76): the text of a trace line with the given label
(`none` is the label `UNIMPL`), `pc`, `ir` and byte at `pc`. UNVERIFIED: the spec gives no text (log entry 6); safe. -/
opaque Config.traceFormat (label : Option Mnemonic) (pc : Word) (ir byteAtPc : Byte) : String

/-- The text of the diagnostic dump of `pc sp bc de hl a f ir ie` (10_state.md R26; 91_not_in_source.md N6).
UNVERIFIED: the spec gives no text (log entry 6); safe. -/
opaque Config.dumpFormat (pc sp bc de hl : Word) (a f ir ie : Byte) : String

end Sys2Proof
end

