-- ==== Sys2Proof/Machine/Observe.lean ====
section
/-! DEFINITION. What the host can see: the snapshot and the dump (10_state.md R26), the trace line (40_execution_cycle.md
R76). None of them changes any state. -/

namespace Sys2Proof.Machine

/-- The point-in-time copy of the Register File (10_state.md R26). -/
structure Snapshot where
  pc : Word
  sp : Word
  bc : Word
  de : Word
  hl : Word
  a : Byte
  f : Byte
  ir : Byte
  ie : Byte
deriving DecidableEq, Repr

/-- Take a snapshot (10_state.md R26). -/
def snapshot (s : State) : Snapshot :=
  { pc := s.pc, sp := s.sp, bc := readPair .bc s, de := readPair .de s, hl := readPair .hl s,
    a := s.a, f := s.f, ir := s.ir, ie := s.ie }

/-- The text of the diagnostic dump; its layout is open (10_state.md R26). -/
def dumpText (s : State) : String :=
  Config.dumpFormat s.pc s.sp (readPair .bc s) (readPair .de s) (readPair .hl s) s.a s.f s.ir s.ie

/-- The four fields of a trace line (40_execution_cycle.md R76); the label `none` is `UNIMPL`. -/
structure TraceLine where
  label : Option Mnemonic
  pc : Word
  ir : Byte
  byteAtPc : Byte
deriving DecidableEq, Repr

/-- The label of an outcome (40_execution_cycle.md R76; 92_eei_decisions.md D12). -/
def traceLabel : StepOutcome → Option Mnemonic
  | .executed m => some m
  | .unimplementedOpcode _ => none

/-- The trace line for the outcome of the step that led to `s`: `pc`, `ir` and the byte at `pc` are those after the
dispatch (40_execution_cycle.md R76). -/
def traceLine (o : StepOutcome) (s : State) : TraceLine :=
  { label := traceLabel o, pc := s.pc, ir := s.ir, byteAtPc := read s.mem s.pc }

/-- `if TRACE then EmitTrace(result)` (40_execution_cycle.md R70 step 5): one line per step, or none. -/
def emitTrace (trace : Bool) (s : State) : List TraceLine :=
  if trace then (s.outcome.map (fun o => traceLine o s)).toList else []

/-- The text of a trace line; its layout is open (92_eei_decisions.md D12). -/
def TraceLine.text (t : TraceLine) : String := Config.traceFormat t.label t.pc t.ir t.byteAtPc

end Sys2Proof.Machine
end

