-- ==== Sys2Proof/Machine/Driver.lean ====
section
/-! DEFINITION. The loop driver (40_execution_cycle.md R77; 70_reset_and_hazards.md R123), and the step of a driver that
counts the report as the fault of the run (44_prefix_and_unimplemented.md R97; 93_implementation_defined.md U1, U2). -/

namespace Sys2Proof.Machine

/-- How a run ends (70_reset_and_hazards.md R123). -/
inductive RunResult where
  /-- `Completed(n)`: `n` steps, none of which raised. -/
  | completed (n : Nat)
  /-- `Stopped(i, UnimplementedOpcode(...))`: step `i` raised. -/
  | stopped (i : Nat) (r : UnimplementedRecord)
deriving DecidableEq, Repr

/-- A run's result, its final state and the trace lines it printed, oldest first. -/
structure RunReport where
  result : RunResult
  final : State
  console : List TraceLine
deriving DecidableEq, Repr

/-- The record of the last step, if it reported an unimplemented opcode. -/
def State.raised (s : State) : Option UnimplementedRecord :=
  match s.outcome with
  | some (.unimplementedOpcode r) => some r
  | some (.executed _) => none
  | none => none

/-- A run with `n` steps to go after `done` steps, whose trace so far is `lines`. -/
def runFrom (trace : Bool) (done : Nat) (lines : List TraceLine) :
    Nat → State → Host.Outcome RunReport Fault Refusal
  | 0, s => .next { result := .completed done, final := s, console := lines }
  | n + 1, s =>
    match step s with
    | .next t =>
      match t.raised with
      | some r => .next { result := .stopped (done + 1) r, final := t, console := lines ++ emitTrace trace t }
      | none => runFrom trace (done + 1) (lines ++ emitTrace trace t) n t
    | .fault r => .fault r
    | .refused r => .refused r

/-- `Run(n)` (40_execution_cycle.md R77): at most `n` steps, stopping at the first `UnimplementedOpcode`. -/
def run (trace : Bool) (n : Nat) (s : State) : Host.Outcome RunReport Fault Refusal := runFrom trace 0 [] n s

/-- A step that counts the report of an unimplemented opcode as a fault: the reading of 44_prefix_and_unimplemented.md R97
under which no run passes through one. -/
def stepStrict (s : State) : Host.Outcome State Fault Refusal :=
  match step s with
  | .next t =>
    match t.raised with
    | some r => .fault (.unimplementedOpcode r)
    | none => .next t
  | .fault r => .fault r
  | .refused r => .refused r

end Sys2Proof.Machine
end

