-- ==== Sys2Proof/Machine/Loader.lean ====
section
/-! DEFINITION. What the host does before the first step and between runs: the ROM loader (70_reset_and_hazards.md R116),
the diagnostic writes (10_state.md R27), and the launch state (R118; 00_scope.md R6). -/

namespace Sys2Proof.Machine

/-- `Load` from index `i` on (70_reset_and_hazards.md R116): bytes at index 0x8000 and beyond are never loaded. -/
def loadFrom (i : Nat) : List Byte → Memory → Memory
  | [], m => m
  | v :: vs, m => if i < 0x8000 then loadFrom (i + 1) vs (loadRom m (BitVec.ofNat 16 i) v) else m

/-- `Load(ROM_IMAGE)` (70_reset_and_hazards.md R116). -/
def loadImage (image : List Byte) (s : State) : State := { s with mem := loadFrom 0 image s.mem }

/-- The 8-bit registers by name (10_state.md R10). -/
inductive ByteRegister where
  | a
  | b
  | c
  | d
  | e
  | f
  | h
  | l
  | ir
  | ie
deriving DecidableEq, Repr

/-- The 16-bit registers by name (10_state.md R10). -/
inductive WordRegister where
  | pc
  | sp
deriving DecidableEq, Repr

/-- The value of an 8-bit register. -/
def readByteRegister (r : ByteRegister) (s : State) : Byte :=
  match r with
  | .a => s.a
  | .b => s.b
  | .c => s.c
  | .d => s.d
  | .e => s.e
  | .f => s.f
  | .h => s.h
  | .l => s.l
  | .ir => s.ir
  | .ie => s.ie

/-- The value of a 16-bit register. -/
def readWordRegister (r : WordRegister) (s : State) : Word :=
  match r with
  | .pc => s.pc
  | .sp => s.sp

/-- Write an 8-bit register, all eight bits as given (10_state.md R27). -/
def writeByteRegister (r : ByteRegister) (v : Byte) (s : State) : State :=
  match r with
  | .a => { s with a := v }
  | .b => { s with b := v }
  | .c => { s with c := v }
  | .d => { s with d := v }
  | .e => { s with e := v }
  | .f => { s with f := v }
  | .h => { s with h := v }
  | .l => { s with l := v }
  | .ir => { s with ir := v }
  | .ie => { s with ie := v }

/-- Write a 16-bit register (10_state.md R27). -/
def writeWordRegister (r : WordRegister) (v : Word) (s : State) : State :=
  match r with
  | .pc => { s with pc := v }
  | .sp => { s with sp := v }

/-- The diagnostic writes the host has (10_state.md R27). -/
inductive Diagnostic where
  /-- Write an 8-bit register. -/
  | setByte (r : ByteRegister) (v : Byte)
  /-- Write a 16-bit register. -/
  | setWord (r : WordRegister) (v : Word)
  /-- `writePair`. -/
  | setPair (p : Pair) (v : Word)
  /-- `SetFlags`. -/
  | setFlags (zero subtract halfCarry carry : Bool)
  /-- The Address Space's own `write`, which cannot change ROM. -/
  | store (addr : Word) (v : Byte)
deriving DecidableEq, Repr

/-- One diagnostic write: it takes effect at once and changes nothing it does not name (10_state.md R27). -/
def applyDiagnostic (w : Diagnostic) (s : State) : State :=
  match w with
  | .setByte r v => writeByteRegister r v s
  | .setWord r v => writeWordRegister r v s
  | .setPair p v => writePair p v s
  | .setFlags z n h c => Machine.setFlags z n h c s
  | .store addr v => s.store addr v

/-- `PRESET` (00_scope.md R6): a list of diagnostic writes in order. -/
def applyPreset (ws : List Diagnostic) (s : State) : State := ws.foldl (fun t w => applyDiagnostic w t) s

/-- The launch state (70_reset_and_hazards.md R118): power-on, load, presets. `none` for the image is a ROM file that is
missing or unreadable: then there is no launch (60_exceptions.md R103). -/
def launch (romImage : Option (List Byte)) (preset : List Diagnostic) : Option State :=
  romImage.map (fun image => applyPreset preset (loadImage image State.reset))

end Sys2Proof.Machine
end

