-- ==== Sys2Proof/Machine/Session.lean ====
section
/-! DEFINITION. The host's liberties and duties in their order (70_reset_and_hazards.md R118, R119, R124; 60_exceptions.md
R103, R114): power-on, one load, then presets, `TRACE` and runs. A move the host does not have gives `none`. -/

namespace Sys2Proof.Machine

/-- Where a session stands (60_exceptions.md R114; 70_reset_and_hazards.md R118). -/
inductive Phase where
  /-- Powered on; the ROM is not loaded and no step can run. -/
  | poweredOn
  /-- Loaded; no step has run. -/
  | loaded
  /-- A run has begun; between runs. -/
  | started
deriving DecidableEq, Repr

/-- A machine in its host's hands. `trace` is the flag `TRACE`: configuration, no state of the machine (10_state.md R23). -/
structure Session where
  machine : State
  phase : Phase
  trace : Bool
  console : List TraceLine
  lastResult : Option RunResult
deriving DecidableEq, Repr

/-- Power-on (70_reset_and_hazards.md R115). `TRACE` is the host's to set; it begins off (log entry 8). -/
def Session.powerOn : Session :=
  { machine := State.reset, phase := .poweredOn, trace := false, console := [], lastResult := none }

/-- The moves of 70_reset_and_hazards.md R124 that change something. -/
inductive HostMove where
  /-- Stream the image into ROM; `none` is a file that cannot be read (60_exceptions.md R103). -/
  | load (image : Option (List Byte))
  /-- A diagnostic write (10_state.md R27). -/
  | diagnostic (w : Diagnostic)
  /-- Set the flag `TRACE`. -/
  | setTrace (on : Bool)
  /-- `Run(n)`. -/
  | run (n : Nat)
deriving DecidableEq, Repr

/-- The session has its ROM (70_reset_and_hazards.md R118: steps (3) to (5) come after the load). -/
def Phase.ready : Phase → Bool
  | .poweredOn => false
  | .loaded => true
  | .started => true

/-- One host move (70_reset_and_hazards.md R124). The load happens once, before the first step; every other move needs
it done. A move out of its place gives `none` (93_implementation_defined.md U6, U7). -/
def hostMove (m : HostMove) (x : Session) : Option Session :=
  match m with
  | .load image =>
    match x.phase with
    | .poweredOn => image.map (fun bytes => { x with machine := loadImage bytes x.machine, phase := .loaded })
    | .loaded => none
    | .started => none
  | .diagnostic w => if x.phase.ready then some { x with machine := applyDiagnostic w x.machine } else none
  | .setTrace on => if x.phase.ready then some { x with trace := on } else none
  | .run n =>
    if x.phase.ready then
      match Machine.run x.trace n x.machine with
      | .next rep =>
        some { x with machine := rep.final, phase := .started, console := x.console ++ rep.console,
                      lastResult := some rep.result }
      | .fault _ => none
      | .refused _ => none
    else none

end Sys2Proof.Machine
end

