-- ==== Sys2Proof/Safety.lean ====
section
/-! DEFINITION. What a safe run is: no step of it reported an unimplemented opcode (44_prefix_and_unimplemented.md R97;
60_exceptions.md R100: "A model treats a run in which it was raised as a faulted run"). -/

namespace Sys2Proof.Machine

/-- The last step reported an unimplemented opcode: the run it belongs to is faulted. -/
def Faulted (s : State) : Prop := s.raised ≠ none

/-- `n` steps from `s` all execute defined instructions. -/
def SafeRun (n : Nat) (s : State) : Prop :=
  ∃ t, run false n s = .next { result := .completed n, final := t, console := [] }

end Sys2Proof.Machine
end

