-- ==== Sys2Proof/WellFormed.lean ====
section
/-! DEFINITION. When a list of bytes is exactly one instruction, and when an instruction is well formed. The operands are
bit vectors of their fields' widths (30_encoding.md R56), so an operand out of range cannot be written down; what is left
to check is the number of bytes (R57). -/

namespace Sys2Proof

/-- A list of bytes is exactly one instruction: there is a base opcode, and there are as many bytes as it asks for, no
fewer and no more (30_encoding.md R55, R57). -/
def oneInstruction : List Byte → Bool
  | [] => false
  | op :: rest => rest.length + 1 == lengthOf op

/-- An instruction is well formed when its bytes are exactly one instruction. -/
def Instr.wellFormed (i : Instr) : Bool := oneInstruction (encode i)

end Sys2Proof
end

