-- ==== Sys2Proof/Certificates/Slice0/Obligations.lean ====
section
/-! DEFINITION. The statements about the machine, for the provers. Each names the rule of spec/ it formalises. -/

open Sys2Proof
open Sys2Proof.Machine

/-! ## Encoding -/

/-- The words of 30_encoding.md R56 and R59, written out bit by bit, decode to the instructions they stand for. -/
def Obligations.WrittenOutWordsDecode : Prop :=
  decode [0b00110001, 0b00000000, 0b11111111] = .ok (.ldSpD16 0xFF00, []) ∧
  decode [0b00100001, 0b11111111, 0b10011111] = .ok (.ldHlD16 0x9FFF, []) ∧
  decode [0b10101111] = .ok (.xorA, []) ∧
  decode [0b00110010] = .ok (.ldHldA, []) ∧
  decode [0b11001011, 0b10101111] = .ok (.cbXx 0xAF, []) ∧
  decode [0b00000000, 0b00110001] = .ok (.unimpl00, [0b00110001]) ∧
  decode [0b00111110, 0b00110001] = .ok (.unimpl3E, [0b00110001]) ∧
  decode [0b11111111] = .ok (.unimplFF, [])

/-- Decoding an encoded well-formed instruction gives it back with the bytes that follow it untouched, for every
instruction and every operand (30_encoding.md R55 to R59). -/
def Obligations.DecodeOfEncodeIsIdentity : Prop :=
  ∀ (i : Instr) (rest : List Byte), i.wellFormed = true → decode (encode i ++ rest) = .ok (i, rest)

/-- Whatever the decoder reads is the encoding of the instruction it answers: no byte sequence is read as an instruction it
does not encode (30_encoding.md R55 to R61). -/
def Obligations.EncodeOfDecodeIsIdentity : Prop :=
  ∀ (bs : List Byte) (i : Instr) (rest : List Byte), decode bs = .ok (i, rest) →
    bs = encode i ++ rest ∧ i.wellFormed = true

/-- The length of an instruction is told from its base opcode alone: 3 for `0x21` and `0x31`, 2 for `0xCB`, 1 for every
other value, and two bytes after the opcode are always enough (30_encoding.md R57). -/
def Obligations.LengthToldByBaseOpcode : Prop :=
  ∀ (op b1 b2 : Byte) (more : List Byte), ∃ i rest,
    decode (op :: b1 :: b2 :: more) = .ok (i, rest) ∧ i.opcode = op ∧
    (op :: b1 :: b2 :: more).length = rest.length + (if op = 0x21 ∨ op = 0x31 then 3 else if op = 0xCB then 2 else 1)

/-- The decoder refuses exactly the byte lists that end inside an instruction: every base opcode is a row of the map
(30_encoding.md R59, R60). -/
def Obligations.DecoderRefusesOnlyTruncatedBytes : Prop :=
  ∀ bs : List Byte, (∃ i rest, decode bs = .ok (i, rest)) ↔
    ∃ op rest, bs = op :: rest ∧ (if op = 0x21 ∨ op = 0x31 then 3 else if op = 0xCB then 2 else 1) ≤ rest.length + 1

/-- The continuation byte is never looked up in the base opcode map: for every one of its values the two bytes decode to
`CB xx` (30_encoding.md R61). -/
def Obligations.ContinuationByteSelectsNothing : Prop :=
  ∀ (ext : Byte) (rest : List Byte), decode (0xCB :: ext :: rest) = .ok (.cbXx ext, rest)

/-! ## The step -/

/-- When the bytes at `pc` decode to a well-formed instruction, the step is its meaning run after the fetch phase, and the
fetch phase is: `ir` the base opcode and `pc` one further, or for the prefix `ir` the continuation byte and `pc` two
further (40_execution_cycle.md R70 to R74). -/
def Obligations.StepRunsDecodedInstruction : Prop :=
  ∀ (s : State) (i : Instr) (rest : List Byte),
    decode (instructionBytes s) = .ok (i, rest) → i.wellFormed = true →
      step s = exec i (fetchPhase s) ∧
      (read s.mem s.pc ≠ 0xCB → fetchPhase s = { s with pc := s.pc + 1, ir := read s.mem s.pc }) ∧
      (read s.mem s.pc = 0xCB → fetchPhase s = { s with pc := s.pc + 1 + 1, ir := read s.mem (s.pc + 1) })

/-- Every state has a next state and every step reports an outcome to the loop driver: no step faults and none is
refused. The spec gives every step a defined state and one of two outcomes (40_execution_cycle.md section 3) and lets no
memory access, operand or register value raise anything (60_exceptions.md section 1). THE MODEL'S CHOICE: that a step at an
opcode with no dispatch case is a next state and no fault is log entry 1 (the spec calls that report a fault of the run,
which here is the driver's), and that the outcome stands in a field of State is log entry 2. -/
def Obligations.EveryStepHasNextStateAndOutcome : Prop :=
  ∀ s : State, ∃ t o, step s = .next t ∧ t.outcome = some o

/-- The machine's step, which decodes first and then runs a meaning, is in every state the `Step()` of 40_execution_cycle.md
R70 (less its trace) written byte by byte with the bodies of R80, R81, R86, R90, R95 and R96. THE MODEL'S CHOICE: both
sides report in the field `outcome` (log entry 2), and where the pseudocode raises, both go on to a next state that holds the
record (log entry 1). -/
def Obligations.StepRefinesCyclePseudocode : Prop :=
  ∀ s : State, step s = .next (cycleStep s)

/-- A step moves `pc` by the length of the instruction at `pc`, modulo 65536, and by nothing else: no instruction writes
`pc` in another way (10_state.md R17). -/
def Obligations.StepAdvancesPcByLength : Prop :=
  ∀ s t : State, step s = .next t →
    t.pc = s.pc + (if read s.mem s.pc = 0x21 ∨ read s.mem s.pc = 0x31 then 3
      else if read s.mem s.pc = 0xCB then 2 else 1)

/-- After a step `ir` holds the base opcode, or for the prefix the continuation byte; operand bytes are not written to it
(10_state.md R19). -/
def Obligations.StepLeavesOpcodeInIr : Prop :=
  ∀ s t : State, step s = .next t →
    t.ir = (if read s.mem s.pc = 0xCB then read s.mem (s.pc + 1) else read s.mem s.pc)

/-! ## Each instruction completes, and what its body does (on entry the fetch phase is done) -/

/-- The body of `LD SP,d16` completes in every state: `sp` is the immediate, `pc` is two further, nothing else changes, and
`Executed` is reported in the model's own field `outcome` (41_load_imm16.md; log entry 2). -/
def Obligations.LdSpBodyCompletes : Prop :=
  ∀ (d16 : Word) (s : State), exec (.ldSpD16 d16) s =
    .next { s with sp := d16, pc := s.pc + 1 + 1, outcome := some (.executed .ldSpD16) }

/-- The body of `LD HL,d16` completes in every state: `h` is bits 15:8 and `l` bits 7:0 of the immediate, `pc` is two
further, nothing else changes (41_load_imm16.md; log entry 2). -/
def Obligations.LdHlBodyCompletes : Prop :=
  ∀ (d16 : Word) (s : State), exec (.ldHlD16 d16) s =
    .next { s with h := (d16 >>> 8).setWidth 8, l := d16.setWidth 8, pc := s.pc + 1 + 1,
                   outcome := some (.executed .ldHlD16) }

/-- The body of `XOR A` completes in every state: `a` is 0, `f` is `(f & 0x0F) | 0x80`, nothing else changes
(42_alu_flags.md; log entry 2). -/
def Obligations.XorABodyCompletes : Prop :=
  ∀ s : State, exec .xorA s =
    .next { s with a := 0, f := (s.f &&& 0x0F) ||| 0x80, outcome := some (.executed .xorA) }

/-- The body of `LD (HL-),A` completes in every state, wherever `hl` points: the Address Space's `write` of `a` at the
address in `hl`, then `hl` one less modulo 65536, nothing else (43_store_hld.md; log entry 2). -/
def Obligations.LdHldABodyCompletes : Prop :=
  ∀ s : State, exec .ldHldA s =
    .next { s with mem := write s.mem (storeAddress s) s.a,
                   h := ((storeAddress s - 1) >>> 8).setWidth 8, l := (storeAddress s - 1).setWidth 8,
                   outcome := some (.executed .ldHldA) }

/-- The body of `CB xx` completes in every state for every continuation byte: it changes nothing and reports
`UnimplementedOpcode(true, xx, pc0)`, `pc0` two before the `pc` it starts with (44_prefix_and_unimplemented.md; log
entries 1, 2 and 5). -/
def Obligations.CbBodyReports : Prop :=
  ∀ (ext : Byte) (s : State), exec (.cbXx ext) s =
    .next { s with outcome := some (.unimplementedOpcode ⟨true, ext, s.pc - 2⟩) }

/-- The body of each of the 251 instructions whose base opcode is none of `0x21 0x31 0x32 0xAF 0xCB` completes in every
state: it changes nothing and reports `UnimplementedOpcode(false, op, pc0)`, `pc0` one before the `pc` it starts with
(44_prefix_and_unimplemented.md; log entries 1, 2 and 5). -/
def Obligations.UnimplementedBodiesReport : Prop :=
  ∀ (i : Instr) (s : State), i.opcode ∉ ([0x21, 0x31, 0x32, 0xAF, 0xCB] : List Byte) →
    exec i s = .next { s with outcome := some (.unimplementedOpcode ⟨false, i.opcode, s.pc - 1⟩) }

/-! ## The rules of the instructions, as whole steps -/

/-- 41_load_imm16.md R80, as a whole step from any state whose byte at `pc` is `0x31`. -/
def Obligations.StepLdSp : Prop :=
  ∀ s : State, read s.mem s.pc = 0x31 → step s =
    .next { s with ir := 0x31, pc := s.pc + 3,
                   sp := (read s.mem (s.pc + 2)).setWidth 16 <<< 8 ||| (read s.mem (s.pc + 1)).setWidth 16,
                   outcome := some (.executed .ldSpD16) }

/-- 41_load_imm16.md R81, as a whole step from any state whose byte at `pc` is `0x21`. -/
def Obligations.StepLdHl : Prop :=
  ∀ s : State, read s.mem s.pc = 0x21 → step s =
    .next { s with ir := 0x21, pc := s.pc + 3, h := read s.mem (s.pc + 2), l := read s.mem (s.pc + 1),
                   outcome := some (.executed .ldHlD16) }

/-- 42_alu_flags.md R86, as a whole step from any state whose byte at `pc` is `0xAF`. -/
def Obligations.StepXorA : Prop :=
  ∀ s : State, read s.mem s.pc = 0xAF → step s =
    .next { s with ir := 0xAF, pc := s.pc + 1, a := 0, f := (s.f &&& 0x0F) ||| 0x80,
                   outcome := some (.executed .xorA) }

/-- 43_store_hld.md R90, as a whole step from any state whose byte at `pc` is `0x32`: the registers, the byte at the
address in `hl` (stored in a read/write range, discarded in ROM and at unmapped addresses), and every other byte. -/
def Obligations.StepLdHldA : Prop :=
  ∀ s : State, read s.mem s.pc = 0x32 → ∃ t, step s = .next t ∧
    t = { s with ir := 0x32, pc := s.pc + 1, mem := t.mem,
                 h := ((storeAddress s - 1) >>> 8).setWidth 8, l := (storeAddress s - 1).setWidth 8,
                 outcome := some (.executed .ldHldA) } ∧
    storeAddress s = s.h.setWidth 16 <<< 8 ||| s.l.setWidth 16 ∧
    read t.mem (storeAddress s) =
      (if (0x8000 ≤ (storeAddress s).toNat ∧ (storeAddress s).toNat ≤ 0xDFFF) ∨
          (0xFE00 ≤ (storeAddress s).toNat ∧ (storeAddress s).toNat ≤ 0xFE9F) ∨ 0xFF00 ≤ (storeAddress s).toNat
        then s.a else read s.mem (storeAddress s)) ∧
    ∀ b, b ≠ storeAddress s → read t.mem b = read s.mem b

/-- `CB xx` as a whole step from any state whose byte at `pc` is `0xCB` (44_prefix_and_unimplemented.md, section of
`CB xx`): `ir` the continuation byte, `pc` two further, nothing else. THE MODEL'S CHOICE: that the step that raises is a next
state and no fault is log entry 1, and that its record stands in the field `outcome` is log entry 2. -/
def Obligations.StepCbPrefix : Prop :=
  ∀ s : State, read s.mem s.pc = 0xCB → step s =
    .next { s with ir := read s.mem (s.pc + 1), pc := s.pc + 2,
                   outcome := some (.unimplementedOpcode ⟨true, read s.mem (s.pc + 1), s.pc⟩) }

/-- A base opcode with no dispatch case as a whole step, from any state whose byte at `pc` is none of the five
(44_prefix_and_unimplemented.md, section of every other base opcode): `ir` that byte, `pc` one further, nothing else. THE
MODEL'S CHOICE: that the step that raises is a next state and no fault is log entry 1, and that its record stands in the
field `outcome` is log entry 2. -/
def Obligations.StepUnimplemented : Prop :=
  ∀ s : State, read s.mem s.pc ∉ ([0x21, 0x31, 0x32, 0xAF, 0xCB] : List Byte) → step s =
    .next { s with ir := read s.mem s.pc, pc := s.pc + 1,
                   outcome := some (.unimplementedOpcode ⟨false, read s.mem s.pc, s.pc⟩) }

/-! ## Frames -/

/-- The frame of every instruction but `LD (HL-),A`: no byte of memory changes; `b c d e ir ie` never change; `sp` changes
in `LD SP,d16` only, `h` and `l` in `LD HL,d16` only, `a` and the flags in `XOR A` only, and bits 3 to 0 of `f` in none
(10_state.md section 7). -/
def Obligations.NonStoringInstructionsFrame : Prop :=
  ∀ (i : Instr) (s t : State), i ≠ .ldHldA → exec i s = .next t →
    (∀ addr, read t.mem addr = read s.mem addr) ∧
    t.b = s.b ∧ t.c = s.c ∧ t.d = s.d ∧ t.e = s.e ∧ t.ir = s.ir ∧ t.ie = s.ie ∧
    (i.opcode ≠ 0x31 → t.sp = s.sp) ∧
    (i.opcode ≠ 0x21 → t.h = s.h ∧ t.l = s.l) ∧
    (i.opcode ≠ 0xAF → t.a = s.a ∧ t.f = s.f) ∧
    t.f &&& 0x0F = s.f &&& 0x0F

/-- The frame of `LD (HL-),A`: every register but `h` and `l` is unchanged, `f` whole, and every byte of memory but the one
at the address the instruction stores to reads as before (43_store_hld.md section of `LD (HL-),A`). -/
def Obligations.StoreInstructionFrame : Prop :=
  ∀ s t : State, exec .ldHldA s = .next t →
    t.pc = s.pc ∧ t.sp = s.sp ∧ t.a = s.a ∧ t.b = s.b ∧ t.c = s.c ∧ t.d = s.d ∧ t.e = s.e ∧ t.f = s.f ∧
    t.ir = s.ir ∧ t.ie = s.ie ∧
    ∀ ea, storeAddress s = ea → ∀ addr, addr ≠ ea → read t.mem addr = read s.mem addr

/-! ## Rules about the whole machine -/

/-- `XOR A` is the only instruction that writes `f`: a step at any other opcode leaves all eight bits as they were
(42_alu_flags.md, after R86). -/
def Obligations.OnlyXorAWritesF : Prop :=
  ∀ s t : State, step s = .next t → read s.mem s.pc ≠ 0xAF → t.f = s.f

/-- `LD SP,d16` is the only instruction that writes `sp` (10_state.md section 5). -/
def Obligations.OnlyLdSpWritesSp : Prop :=
  ∀ s t : State, step s = .next t → read s.mem s.pc ≠ 0x31 → t.sp = s.sp

/-- No step writes `b c d e` or `ie` (10_state.md sections 2 and 6). -/
def Obligations.NoStepWritesBcdeOrIe : Prop :=
  ∀ s t : State, step s = .next t →
    t.b = s.b ∧ t.c = s.c ∧ t.d = s.d ∧ t.e = s.e ∧ t.ie = s.ie

/-- Bits 3 to 0 of `f` are never written by a step (10_state.md section 3). -/
def Obligations.NoStepWritesLowFlagBits : Prop :=
  ∀ s t : State, step s = .next t → t.f &&& 0x0F = s.f &&& 0x0F

/-- A step reads nothing of `sp b c d e f ir ie` or of the last report: two states that agree on `pc a h l` and memory
take the same step in everything a step computes, and each register not read is either set alike or left as it was
(10_state.md section 7, access matrix; the clause on the model's field `outcome` is log entry 2's). -/
def Obligations.StepReadsOnlyPcAHlMemory : Prop :=
  ∀ s s' t t' : State, s.pc = s'.pc → s.a = s'.a → s.h = s'.h → s.l = s'.l → s.mem = s'.mem →
    step s = .next t → step s' = .next t' →
      t.pc = t'.pc ∧ t.a = t'.a ∧ t.h = t'.h ∧ t.l = t'.l ∧ t.mem = t'.mem ∧ t.ir = t'.ir ∧ t.outcome = t'.outcome ∧
      (t.sp = t'.sp ∨ (t.sp = s.sp ∧ t'.sp = s'.sp)) ∧
      (t.f &&& 0xF0 = t'.f &&& 0xF0 ∨ (t.f = s.f ∧ t'.f = s'.f))

/-- No step changes a byte of the two ROM ranges (20_memory.md sections 1 and 3). -/
def Obligations.NoStepChangesRom : Prop :=
  ∀ s t : State, step s = .next t → ∀ addr : Word, addr.toNat ≤ 0x7FFF → read t.mem addr = read s.mem addr

/-- A store is seen by the very next fetch: where `LD (HL-),A` stores into a read/write range at the address that follows
it, the byte stored is the opcode the next step fetches (20_memory.md R48). -/
def Obligations.StoreIsSeenByNextFetch : Prop :=
  ∀ s t u : State, read s.mem s.pc = 0x32 → storeAddress s = s.pc + 1 → writable (s.pc + 1) = true → s.a ≠ 0xCB →
    step s = .next t → step t = .next u → u.ir = s.a

/-! ## Invariants -/

/-- Every step keeps the memory's canonical form, from every state that has it. -/
def Obligations.StepKeepsMemoryCanonical : Prop :=
  ∀ s t : State, Memory.wf s.mem = true → step s = .next t → Memory.wf t.mem = true

/-- The reset memory is canonical. -/
def Obligations.ResetMemoryIsCanonical : Prop := Memory.wf State.reset.mem = true

/-- Every launch state's memory is canonical, whatever the image and the presets. -/
def Obligations.LaunchMemoryIsCanonical : Prop :=
  ∀ (image : Option (List Byte)) (preset : List Diagnostic) (s : State),
    launch image preset = some s → Memory.wf s.mem = true

/-- In every state reached by any number of steps from power-on with any image loaded: bits 3 to 0 of `f` are 0, the
registers no instruction writes are 0, memory is in its canonical form (log entry 4), and ROM still holds the image
(10_state.md sections 2, 3 and 6; 20_memory.md section 3; 70_reset_and_hazards.md section 1). The steps are plain ones: they
go on through unimplemented opcodes, as a host that ignores the report does, and the clauses hold of such runs too. THE
MODEL'S CHOICE: that a plain step goes on there is log entry 1. -/
def Obligations.ReachableFromLoadedReset : Prop :=
  ∀ (image : List Byte) (n : Nat) (t : State),
    Host.Core.run Sys2Proof.core n (loadImage image State.reset) = .next t →
      t.f &&& 0x0F = 0 ∧ t.b = 0 ∧ t.c = 0 ∧ t.d = 0 ∧ t.e = 0 ∧ t.ie = 0 ∧ Memory.wf t.mem = true ∧
      ∀ addr : Word, addr.toNat ≤ 0x7FFF → read t.mem addr = image.getD addr.toNat 0

/-! ## Reset and launch -/

/-- Everything is 0 after power-on: every register and every byte an address reads (10_state.md R25). -/
def Obligations.ResetIsAllZero : Prop :=
  let s := State.reset
  s.pc = 0 ∧ s.sp = 0 ∧ s.a = 0 ∧ s.b = 0 ∧ s.c = 0 ∧ s.d = 0 ∧ s.e = 0 ∧ s.h = 0 ∧ s.l = 0 ∧ s.f = 0 ∧ s.ir = 0 ∧
  s.ie = 0 ∧ ∀ addr, read s.mem addr = 0

/-- Loading puts byte `k` of the image at address `k` for every `k` below both its length and 0x8000; every other address
reads as before, and no register changes (70_reset_and_hazards.md R116). -/
def Obligations.LoadPutsImageInRom : Prop :=
  ∀ (image : List Byte) (s : State),
    (∀ addr : Word, read (loadImage image s).mem addr =
      if addr.toNat < min image.length 0x8000 then image.getD addr.toNat 0 else read s.mem addr) ∧
    loadImage image s = { s with mem := (loadImage image s).mem }

/-- After a launch without presets, whatever the image, `pc` is 0, and the first step fetches there: it leaves the image's
first byte in `ir`, or where that is the prefix the second; a byte the image does not reach is 0
(70_reset_and_hazards.md section 1). -/
def Obligations.FirstFetchIsAtZero : Prop :=
  ∀ (image : List Byte) (s : State), launch (some image) [] = some s →
    s.pc = 0 ∧ ∀ t, step s = .next t →
      (image.getD 0 0 ≠ 0xCB → t.ir = image.getD 0 0) ∧ (image.getD 0 0 = 0xCB → t.ir = image.getD 1 0)

/-- An image that cannot be read gives no launch (60_exceptions.md R103). -/
def Obligations.NoImageNoLaunch : Prop :=
  (∀ preset, launch none preset = none) ∧ ∀ x, hostMove (.load none) x = none

/-! ## Memory -/

/-- Every address maps to exactly one behaviour: an address decodes to a range and an offset exactly when it is that range's
base plus that offset and the offset is inside the range, and to none exactly in the two gaps (20_memory.md R31, R33). -/
def Obligations.AddressDecodeIsTotalAndUnambiguous : Prop :=
  (∀ (addr : Word) (r : Region) (off : Nat),
    decodeAddress addr = some (r, off) ↔ (off < r.size ∧ addr.toNat = r.base + off)) ∧
  (∀ addr : Word, decodeAddress addr = none ↔
    ((0xE000 ≤ addr.toNat ∧ addr.toNat ≤ 0xFDFF) ∨ (0xFEA0 ≤ addr.toNat ∧ addr.toNat ≤ 0xFEFF)))

/-- The laws of `write`: round trip in the read/write ranges, no effect in ROM and at unmapped addresses, and no effect on
any other address (20_memory.md R35). -/
def Obligations.WriteLaws : Prop :=
  ∀ (m : Memory) (addr : Word) (v : Byte),
    (((0x8000 ≤ addr.toNat ∧ addr.toNat ≤ 0xDFFF) ∨ (0xFE00 ≤ addr.toNat ∧ addr.toNat ≤ 0xFE9F) ∨
        0xFF00 ≤ addr.toNat) → read (write m addr v) addr = v) ∧
    (addr.toNat ≤ 0x7FFF → write m addr v = m) ∧
    (decodeAddress addr = none → write m addr v = m) ∧
    (∀ b, b ≠ addr → read (write m addr v) b = read m b)

/-- The laws of `loadRom`: it stores at every ROM address, is ignored at any other, and changes no other address
(20_memory.md R36). -/
def Obligations.LoadRomLaws : Prop :=
  ∀ (m : Memory) (addr : Word) (v : Byte),
    (addr.toNat ≤ 0x7FFF → read (loadRom m addr v) addr = v) ∧
    (0x7FFF < addr.toNat → loadRom m addr v = m) ∧
    (∀ b, b ≠ addr → read (loadRom m addr v) b = read m b)

/-- The unmapped addresses are exactly the two gaps; a read there gives 0 whatever memory holds, and a write is discarded
(20_memory.md R32). -/
def Obligations.UnmappedReadsZeroAndDiscardsWrites : Prop :=
  ∀ addr : Word,
    (mapped addr = false ↔
      (0xE000 ≤ addr.toNat ∧ addr.toNat ≤ 0xFDFF) ∨ (0xFEA0 ≤ addr.toNat ∧ addr.toNat ≤ 0xFEFF)) ∧
    (mapped addr = false → ∀ (m : Memory) (v : Byte), read m addr = 0 ∧ write m addr v = m)

/-- The cell at `0xFFFF` and the register `ie` are two pieces of state: a store there changes that cell alone, and `ie` is
read at no address (20_memory.md section 3). -/
def Obligations.IeRegisterIsNotTheCell : Prop :=
  ∀ (s : State) (v : Byte),
    read (s.store 0xFFFF v).mem 0xFFFF = v ∧ (s.store 0xFFFF v).ie = s.ie ∧
    (∀ b, b ≠ 0xFFFF → read (s.store 0xFFFF v).mem b = read s.mem b) ∧
    (∀ b, read (writeByteRegister .ie v s).mem b = read s.mem b)

/-! ## Registers and flags -/

/-- `readPair` is `(high << 8) | low`; `writePair` then `readPair` gives the value back for each of the three pairs, the high register holds bits 15:8 and the
low register bits 7:0, and nothing else changes (10_state.md R13, R14). -/
def Obligations.PairWriteThenRead : Prop :=
  ∀ (v : Word) (s : State),
    readPair .bc s = s.b.setWidth 16 <<< 8 ||| s.c.setWidth 16 ∧
    readPair .de s = s.d.setWidth 16 <<< 8 ||| s.e.setWidth 16 ∧
    readPair .hl s = s.h.setWidth 16 <<< 8 ||| s.l.setWidth 16 ∧
    (∀ p, readPair p (writePair p v s) = v) ∧
    writePair .bc v s = { s with b := (v >>> 8).setWidth 8, c := v.setWidth 8 } ∧
    writePair .de v s = { s with d := (v >>> 8).setWidth 8, e := v.setWidth 8 } ∧
    writePair .hl v s = { s with h := (v >>> 8).setWidth 8, l := v.setWidth 8 }

/-- `SetFlags` sets each flag bit to its own argument, a false argument clearing it, leaves bits 3 to 0 as they were, and
changes no other state (42_alu_flags.md R85). -/
def Obligations.SetFlagsSetsEachBit : Prop :=
  ∀ (zero subtract halfCarry carry : Bool) (s : State),
    let t := setFlags zero subtract halfCarry carry s
    t.flagZ = zero ∧ t.flagN = subtract ∧ t.flagH = halfCarry ∧ t.flagC = carry ∧
    t.f &&& 0x0F = s.f &&& 0x0F ∧ t = { s with f := t.f }

/-- Each of the five diagnostic writes changes what it names alone (10_state.md section 9): a register is written as given;
a pair is written through its two halves; `SetFlags` writes the four flag bits; a store writes its byte in a read/write
range, and changes nothing in ROM or at an unmapped address. None changes the model's field `outcome` (log entry 2). -/
def Obligations.DiagnosticWritesChangeWhatTheyName : Prop :=
  (∀ (r q : ByteRegister) (v : Byte) (s : State),
    let t := applyDiagnostic (.setByte r v) s
    readByteRegister q t = (if q = r then v else readByteRegister q s) ∧
    t.pc = s.pc ∧ t.sp = s.sp ∧ t.mem = s.mem ∧ t.outcome = s.outcome) ∧
  (∀ (r q : WordRegister) (v : Word) (s : State),
    let t := applyDiagnostic (.setWord r v) s
    readWordRegister q t = (if q = r then v else readWordRegister q s) ∧
    (∀ p, readByteRegister p t = readByteRegister p s) ∧ t.mem = s.mem ∧ t.outcome = s.outcome) ∧
  (∀ (p q : Pair) (v : Word) (s : State),
    let t := applyDiagnostic (.setPair p v) s
    readPair q t = (if q = p then v else readPair q s) ∧
    t.a = s.a ∧ t.f = s.f ∧ t.ir = s.ir ∧ t.ie = s.ie ∧ t.pc = s.pc ∧ t.sp = s.sp ∧ t.mem = s.mem ∧
    t.outcome = s.outcome) ∧
  (∀ (zero subtract halfCarry carry : Bool) (s : State),
    let t := applyDiagnostic (.setFlags zero subtract halfCarry carry) s
    t.flagZ = zero ∧ t.flagN = subtract ∧ t.flagH = halfCarry ∧ t.flagC = carry ∧
    t.f &&& 0x0F = s.f &&& 0x0F ∧ t = { s with f := t.f }) ∧
  (∀ (addr : Word) (v : Byte) (s : State),
    let t := applyDiagnostic (.store addr v) s
    (((0x8000 ≤ addr.toNat ∧ addr.toNat ≤ 0xDFFF) ∨ (0xFE00 ≤ addr.toNat ∧ addr.toNat ≤ 0xFE9F) ∨
        0xFF00 ≤ addr.toNat) → read t.mem addr = v) ∧
    (addr.toNat ≤ 0x7FFF → t = s) ∧
    (((0xE000 ≤ addr.toNat ∧ addr.toNat ≤ 0xFDFF) ∨ (0xFEA0 ≤ addr.toNat ∧ addr.toNat ≤ 0xFEFF)) → t = s) ∧
    (∀ b, b ≠ addr → read t.mem b = read s.mem b) ∧ t = { s with mem := t.mem })

/-! ## The exception and the driver -/

/-- `UnimplementedOpcode` is raised exactly at an opcode with no dispatch case and at the prefix, with its record; at the
report `ir` holds the opcode reported and `pc` is past the instruction, and a run that gets there is faulted
(60_exceptions.md section 1). THE MODEL'S CHOICE: that the step that raises is a next state, which is `Faulted`, and that the
fault itself is the fail-fast step's, is log entry 1; that the record is read off the field `outcome` is log entry 2. -/
def Obligations.UnimplementedRaisedExactlyThere : Prop :=
  ∀ (s t : State) (r : UnimplementedRecord), step s = .next t →
    (t.raised = some r ↔
      (read s.mem s.pc ∉ ([0x21, 0x31, 0x32, 0xAF, 0xCB] : List Byte) ∧ r = ⟨false, read s.mem s.pc, s.pc⟩) ∨
      (read s.mem s.pc = 0xCB ∧ r = ⟨true, read s.mem (s.pc + 1), s.pc⟩)) ∧
    (t.raised = some r → t.ir = r.opcode ∧ t.pc = r.pcAtFetch + (if r.prefixed then 2 else 1) ∧
      Faulted t ∧ stepStrict s = .fault (.unimplementedOpcode r))

/-- The fail-fast step stops exactly where an unimplemented opcode is reported, with its record, and is the step anywhere
else (44_prefix_and_unimplemented.md R97; log entry 1). -/
def Obligations.StrictStepFaultsExactlyOnReport : Prop :=
  ∀ s : State, ∃ t, step s = .next t ∧
    (∀ r, t.raised = some r → stepStrict s = .fault (.unimplementedOpcode r)) ∧
    (t.raised = none → stepStrict s = .next t)

/-- A run always ends, in one of two ways: completed after `n` steps, or stopped at a step from 1 to `n`
(70_reset_and_hazards.md R123). -/
def Obligations.RunAlwaysEnds : Prop :=
  ∀ (trace : Bool) (n : Nat) (s : State), ∃ rep, run trace n s = .next rep ∧
    (rep.result = .completed n ∨ ∃ i r, rep.result = .stopped i r ∧ 1 ≤ i ∧ i ≤ n)

/-- A completed run is `n` steps of the machine none of which raised, and its final state is theirs
(40_execution_cycle.md section 3). THE MODEL'S CHOICE: that "raised" is read off a next state's `outcome` is log entries 1
and 2. -/
def Obligations.CompletedRunIsNDefinedSteps : Prop :=
  ∀ (trace : Bool) (n : Nat) (s : State) (rep : RunReport), run trace n s = .next rep → rep.result = .completed n →
    Host.Core.run Sys2Proof.core n s = .next rep.final ∧
    ∀ k u, 1 ≤ k → k ≤ n → Host.Core.run Sys2Proof.core k s = .next u → u.raised = none

/-- A stopped run stopped at the first step that raised: the final state is that of the first `i` steps, it carries the
record, and no step before it raised (40_execution_cycle.md section 3; 92_eei_decisions.md D2). THE MODEL'S CHOICE: that the
step that raised is a next state which carries the record is log entries 1 and 2. -/
def Obligations.StoppedRunStopsAtFirstReport : Prop :=
  ∀ (trace : Bool) (n : Nat) (s : State) (rep : RunReport) (i : Nat) (r : UnimplementedRecord),
    run trace n s = .next rep → rep.result = .stopped i r →
      Host.Core.run Sys2Proof.core i s = .next rep.final ∧ rep.final.raised = some r ∧
      ∀ k u, 1 ≤ k → k < i → Host.Core.run Sys2Proof.core k s = .next u → u.raised = none

/-- A run is safe exactly when none of its steps leaves a faulted state (60_exceptions.md section 1;
44_prefix_and_unimplemented.md, last section). THE MODEL'S CHOICE: that being faulted is a property of the next state a
step leaves is log entry 1. -/
def Obligations.SafeRunIffNoStepFaults : Prop :=
  ∀ (n : Nat) (s : State), SafeRun n s ↔
    ∀ k u, 1 ≤ k → k ≤ n → Host.Core.run Sys2Proof.core k s = .next u → ¬ Faulted u

/-- A run started again after a stop goes on at the current `pc` whatever the last report was: nothing of it is kept that a
step could read (60_exceptions.md section 3; the field `outcome` is log entry 2's). -/
def Obligations.ResumedRunIgnoresLastReport : Prop :=
  ∀ (trace : Bool) (n : Nat) (s : State) (o : Option StepOutcome),
    run trace (n + 1) { s with outcome := o } = run trace (n + 1) s

/-- Tracing changes neither the result nor the final state of a run; without it nothing is printed, with it one line for
each step taken (40_execution_cycle.md section 2; 92_eei_decisions.md D12). -/
def Obligations.TraceChangesNothing : Prop :=
  ∀ (n : Nat) (s : State) (on off : RunReport), run true n s = .next on → run false n s = .next off →
    on.result = off.result ∧ on.final = off.final ∧ off.console = [] ∧
    (∀ k, on.result = .completed k → on.console.length = k) ∧
    (∀ i r, on.result = .stopped i r → on.console.length = i)

/-- The line a traced step prints holds its label, and the `pc`, `ir` and byte at `pc` the step leaves
(40_execution_cycle.md section 2). -/
def Obligations.TraceLineFields : Prop :=
  ∀ s t : State, step s = .next t → ∃ label, emitTrace true t = [⟨label, t.pc, t.ir, read t.mem t.pc⟩] ∧
    (label = none ↔ ∃ r, t.raised = some r)

/-! ## The host's moves -/

/-- After any move the host makes, it has no move that loads ROM (70_reset_and_hazards.md section 3;
93_implementation_defined.md U6). -/
def Obligations.NoSecondLoad : Prop :=
  ∀ (m : HostMove) (x y : Session) (image : Option (List Byte)), hostMove m x = some y → hostMove (.load image) y = none

/-- Once the image is loaded, no move of the host, a run of any length among them, changes a byte of ROM
(20_memory.md section 3; 70_reset_and_hazards.md section 1). -/
def Obligations.RomFixedOnceLoaded : Prop :=
  ∀ (m : HostMove) (x y : Session), x.phase.ready = true → hostMove m x = some y →
    y.phase.ready = true ∧
    ∀ addr : Word, addr.toNat ≤ 0x7FFF → read y.machine.mem addr = read x.machine.mem addr

/-! ## The host's interface of this row -/

/-- `withFetchWord` places an opcode-table word so that the very next step runs exactly that instruction; it changes no
register but, where the window at `pc` has no storage, `pc` (log entry 7). -/
def Obligations.PlacedWordRunsNext : Prop :=
  ∀ (s : State) (nbits w : Nat) (i : Instr), decodeTableWord nbits w = some i →
    step (s.withFetchWord nbits w) = exec i (fetchPhase (s.withFetchWord nbits w)) ∧
    (fetchWindowMapped s.pc = true → (s.withFetchWord nbits w).pc = s.pc) ∧
    s.withFetchWord nbits w = { s with pc := (s.withFetchWord nbits w).pc, mem := (s.withFetchWord nbits w).mem }
end

