-- ==== Sys2Proof/Laws/AddressMap.lean ====
section
/-! SUPPORT. What the address decode can answer (20_memory.md R31 to R33, R37). -/

namespace Sys2Proof.Machine

/-- Every address falls in exactly one of nine ranges and two gaps (20_memory.md R33). -/
theorem decodeAddress_cases (addr : Word) :
    (∃ r off, decodeAddress addr = some (r, off) ∧ r.base + off = addr.toNat ∧ off < r.size ∧
      (r.isRom = true ↔ addr.toNat ≤ 0x7FFF) ∧
      (addr.toNat ≤ 0xDFFF ∨ (0xFE00 ≤ addr.toNat ∧ addr.toNat ≤ 0xFE9F) ∨ 0xFF00 ≤ addr.toNat)) ∨
    (decodeAddress addr = none ∧
      ((0xE000 ≤ addr.toNat ∧ addr.toNat ≤ 0xFDFF) ∨ (0xFEA0 ≤ addr.toNat ∧ addr.toNat ≤ 0xFEFF))) := by
  have hlt : addr.toNat < 65536 := addr.isLt
  unfold decodeAddress
  simp only
  repeat' split
  all_goals first
    | exact .inr ⟨rfl, by omega⟩
    | exact .inl ⟨_, _, rfl, by simp only [Region.base]; omega, by simp only [Region.size]; omega,
        by simp only [Region.isRom, Bool.false_eq_true, true_iff, false_iff]; omega, by omega⟩

/-- A decoded address is the base of its range plus its offset, and the offset is inside the range. -/
theorem decodeAddress_spec {addr : Word} {r : Region} {off : Nat} (h : decodeAddress addr = some (r, off)) :
    r.base + off = addr.toNat ∧ off < r.size ∧ (r.isRom = true ↔ addr.toNat ≤ 0x7FFF) := by
  obtain ⟨r', off', h', hb, ho, hr, -⟩ | ⟨h', -⟩ := decodeAddress_cases addr
  · rw [h'] at h
    cases h
    exact ⟨hb, ho, hr⟩
  · rw [h'] at h
    cases h

/-- The mapped addresses (20_memory.md R31, R32). -/
theorem mapped_iff (addr : Word) :
    mapped addr = true ↔
      addr.toNat ≤ 0xDFFF ∨ (0xFE00 ≤ addr.toNat ∧ addr.toNat ≤ 0xFE9F) ∨ 0xFF00 ≤ addr.toNat := by
  obtain ⟨r, off, h, -, -, -, hm⟩ | ⟨h, hm⟩ := decodeAddress_cases addr
  · simp only [mapped, h, Option.isSome_some, true_iff]
    exact hm
  · simp only [mapped, h, Option.isSome_none, Bool.false_eq_true, false_iff]
    omega

/-- The addresses `loadRom` stores at: the two ROM ranges (20_memory.md R36). -/
theorem loadable_iff (addr : Word) : loadable addr = true ↔ addr.toNat ≤ 0x7FFF := by
  obtain ⟨r, off, h, -, -, hr, -⟩ | ⟨h, hm⟩ := decodeAddress_cases addr
  · simp only [loadable, h]
    exact hr
  · simp only [loadable, h, Bool.false_eq_true, false_iff]
    omega

/-- The addresses `write` stores at: rows 3 to 9 of the region table (20_memory.md R35). -/
theorem writable_iff (addr : Word) :
    writable addr = true ↔
      (0x8000 ≤ addr.toNat ∧ addr.toNat ≤ 0xDFFF) ∨ (0xFE00 ≤ addr.toNat ∧ addr.toNat ≤ 0xFE9F)
        ∨ 0xFF00 ≤ addr.toNat := by
  obtain ⟨r, off, h, -, -, hr, hm⟩ | ⟨h, hm⟩ := decodeAddress_cases addr
  · simp only [writable, h, Bool.not_eq_true', Bool.eq_false_iff, ne_eq, hr]
    omega
  · simp only [writable, h, Bool.false_eq_true, false_iff]
    omega

theorem mapped_of_writable {addr : Word} (h : writable addr = true) : mapped addr = true := by
  rw [mapped_iff]
  rw [writable_iff] at h
  omega

theorem mapped_of_loadable {addr : Word} (h : loadable addr = true) : mapped addr = true := by
  rw [mapped_iff]
  rw [loadable_iff] at h
  omega

/-- A mapped address is stored at by exactly one of `write` and `loadRom`. -/
theorem writable_eq_not_loadable {addr : Word} (h : mapped addr = true) : writable addr = !loadable addr := by
  rw [mapped_iff] at h
  rw [Bool.eq_iff_iff, writable_iff, Bool.not_eq_true', Bool.eq_false_iff, ne_eq, loadable_iff]
  omega

end Sys2Proof.Machine
end

