-- ==== Sys2Proof/Laws/Decode.lean ====
section
/-! SUPPORT. The bit fields, the opcode map and the decoder, each said once (30_encoding.md R55 to R61). -/

namespace Sys2Proof

/-! ## Bit fields -/

@[simp] theorem hiByte_wordOfBytes (hi lo : Byte) : hiByte (wordOfBytes hi lo) = hi := by
  ext i hi'
  have h1 : 8 + i < 16 := by omega
  have h2 : i < 16 := by omega
  simp [hiByte, wordOfBytes, h1, h2, BitVec.getLsbD_eq_getElem hi']

@[simp] theorem loByte_wordOfBytes (hi lo : Byte) : loByte (wordOfBytes hi lo) = lo := by
  ext i hi'
  simp [loByte, wordOfBytes]

@[simp] theorem wordOfBytes_hiByte_loByte (w : Word) : wordOfBytes (hiByte w) (loByte w) = w := by
  ext i hi
  by_cases h : i < 8
  · simp [hiByte, loByte, wordOfBytes, h, BitVec.getLsbD_eq_getElem hi]
  · have h8 : 8 + (i - 8) = i := by omega
    have hlt : i - 8 < 8 := by omega
    simp [hiByte, loByte, wordOfBytes, h, h8, hi, hlt]

/-! ## The opcode map -/

/-- The sixteen base opcodes `0x<hi>0` to `0x<hi>F`. -/
def rowOpcodes (hi : Nat) : List Byte := (List.range 16).map (fun lo => BitVec.ofNat 8 (16 * hi + lo))

theorem opcodeRow0_opcodes : (opcodeRow0).map Instr.opcode = rowOpcodes 0 := rfl
theorem opcodeRow1_opcodes : (opcodeRow1).map Instr.opcode = rowOpcodes 1 := rfl
theorem opcodeRow2_opcodes (d16 : Word) : (opcodeRow2 d16).map Instr.opcode = rowOpcodes 2 := rfl
theorem opcodeRow3_opcodes (d16 : Word) : (opcodeRow3 d16).map Instr.opcode = rowOpcodes 3 := rfl
theorem opcodeRow4_opcodes : (opcodeRow4).map Instr.opcode = rowOpcodes 4 := rfl
theorem opcodeRow5_opcodes : (opcodeRow5).map Instr.opcode = rowOpcodes 5 := rfl
theorem opcodeRow6_opcodes : (opcodeRow6).map Instr.opcode = rowOpcodes 6 := rfl
theorem opcodeRow7_opcodes : (opcodeRow7).map Instr.opcode = rowOpcodes 7 := rfl
theorem opcodeRow8_opcodes : (opcodeRow8).map Instr.opcode = rowOpcodes 8 := rfl
theorem opcodeRow9_opcodes : (opcodeRow9).map Instr.opcode = rowOpcodes 9 := rfl
theorem opcodeRowA_opcodes : (opcodeRowA).map Instr.opcode = rowOpcodes 10 := rfl
theorem opcodeRowB_opcodes : (opcodeRowB).map Instr.opcode = rowOpcodes 11 := rfl
theorem opcodeRowC_opcodes (ext : Byte) : (opcodeRowC ext).map Instr.opcode = rowOpcodes 12 := rfl
theorem opcodeRowD_opcodes : (opcodeRowD).map Instr.opcode = rowOpcodes 13 := rfl
theorem opcodeRowE_opcodes : (opcodeRowE).map Instr.opcode = rowOpcodes 14 := rfl
theorem opcodeRowF_opcodes : (opcodeRowF).map Instr.opcode = rowOpcodes 15 := rfl

/-- Row `hi` of the map holds the base opcodes `0x<hi>0` to `0x<hi>F` in order (30_encoding.md R59). -/
theorem baseOpcodeMap_row (d16 : Word) (ext : Byte) (hi : Nat) (h : hi < 16) :
    ∃ row, (baseOpcodeMap d16 ext)[hi]? = some row ∧ row.map Instr.opcode = rowOpcodes hi := by
  match hi with
  | 0 => exact ⟨_, rfl, opcodeRow0_opcodes⟩
  | 1 => exact ⟨_, rfl, opcodeRow1_opcodes⟩
  | 2 => exact ⟨_, rfl, opcodeRow2_opcodes _⟩
  | 3 => exact ⟨_, rfl, opcodeRow3_opcodes _⟩
  | 4 => exact ⟨_, rfl, opcodeRow4_opcodes⟩
  | 5 => exact ⟨_, rfl, opcodeRow5_opcodes⟩
  | 6 => exact ⟨_, rfl, opcodeRow6_opcodes⟩
  | 7 => exact ⟨_, rfl, opcodeRow7_opcodes⟩
  | 8 => exact ⟨_, rfl, opcodeRow8_opcodes⟩
  | 9 => exact ⟨_, rfl, opcodeRow9_opcodes⟩
  | 10 => exact ⟨_, rfl, opcodeRowA_opcodes⟩
  | 11 => exact ⟨_, rfl, opcodeRowB_opcodes⟩
  | 12 => exact ⟨_, rfl, opcodeRowC_opcodes _⟩
  | 13 => exact ⟨_, rfl, opcodeRowD_opcodes⟩
  | 14 => exact ⟨_, rfl, opcodeRowE_opcodes⟩
  | 15 => exact ⟨_, rfl, opcodeRowF_opcodes⟩
  | n + 16 => omega

/-- The map has an entry for every base opcode, and it is an instruction of that opcode. -/
theorem rowOf_ok (op : Byte) (d16 : Word) (ext : Byte) : ∃ i, rowOf op d16 ext = .ok i ∧ i.opcode = op := by
  have hop : op.toNat < 256 := op.isLt
  obtain ⟨row, hrow, hops⟩ := baseOpcodeMap_row d16 ext (op.toNat / 16) (by omega)
  have hlen : row.length = 16 := by
    have := congrArg List.length hops
    simpa [rowOpcodes] using this
  have hlo : op.toNat % 16 < row.length := by omega
  refine ⟨row[op.toNat % 16], by simp only [rowOf, hrow, List.getElem?_eq_getElem hlo], ?_⟩
  have hget := congrArg (fun t => t[op.toNat % 16]?) hops
  have hlo' : op.toNat % 16 < 16 := by omega
  simp only [rowOpcodes, List.getElem?_map, List.getElem?_eq_getElem hlo, List.getElem?_range hlo', Option.map_some,
    Option.some.injEq] at hget
  rw [hget, Nat.div_add_mod, BitVec.ofNat_toNat, BitVec.setWidth_eq]

theorem rowOf_ldSp (d16 : Word) (ext : Byte) : rowOf 0x31 d16 ext = .ok (.ldSpD16 d16) := rfl
theorem rowOf_ldHl (d16 : Word) (ext : Byte) : rowOf 0x21 d16 ext = .ok (.ldHlD16 d16) := rfl
theorem rowOf_cb (d16 : Word) (ext : Byte) : rowOf 0xCB d16 ext = .ok (.cbXx ext) := rfl
theorem rowOf_xorA (d16 : Word) (ext : Byte) : rowOf 0xAF d16 ext = .ok .xorA := rfl
theorem rowOf_ldHldA (d16 : Word) (ext : Byte) : rowOf 0x32 d16 ext = .ok .ldHldA := rfl

/-! ## Three bytes always decode -/

/-- What three bytes decode to, by base opcode. -/
theorem decode_three (b0 b1 b2 : Byte) :
    (b0 = 0x31 ∧ decode [b0, b1, b2] = .ok (.ldSpD16 (wordOfBytes b2 b1), [])) ∨
    (b0 = 0x21 ∧ decode [b0, b1, b2] = .ok (.ldHlD16 (wordOfBytes b2 b1), [])) ∨
    (b0 = 0xCB ∧ decode [b0, b1, b2] = .ok (.cbXx b1, [b2])) ∨
    (b0 = 0xAF ∧ decode [b0, b1, b2] = .ok (.xorA, [b1, b2])) ∨
    (b0 = 0x32 ∧ decode [b0, b1, b2] = .ok (.ldHldA, [b1, b2])) ∨
    (b0 ≠ 0x31 ∧ b0 ≠ 0x21 ∧ b0 ≠ 0xCB ∧ b0 ≠ 0xAF ∧ b0 ≠ 0x32 ∧
      ∃ i, decode [b0, b1, b2] = .ok (i, [b1, b2]) ∧ i.opcode = b0) := by
  by_cases h31 : b0 = 0x31
  · subst h31; exact .inl ⟨rfl, rfl⟩
  by_cases h21 : b0 = 0x21
  · subst h21; exact .inr (.inl ⟨rfl, rfl⟩)
  by_cases hcb : b0 = 0xCB
  · subst hcb; exact .inr (.inr (.inl ⟨rfl, rfl⟩))
  by_cases haf : b0 = 0xAF
  · subst haf; exact .inr (.inr (.inr (.inl ⟨rfl, rfl⟩)))
  by_cases h32 : b0 = 0x32
  · subst h32; exact .inr (.inr (.inr (.inr (.inl ⟨rfl, rfl⟩))))
  obtain ⟨i, hi, hop⟩ := rowOf_ok b0 0 0
  refine .inr (.inr (.inr (.inr (.inr ⟨h31, h21, hcb, haf, h32, i, ?_, hop⟩))))
  have hf : formatOf b0 = .op := by
    rw [formatOf, if_neg (not_or.mpr ⟨h21, h31⟩), if_neg (show ¬ b0 = cbPrefix from hcb)]
  simp only [decode, hf, hi, Except.map]

end Sys2Proof
end

