-- ==== Sys2Proof/Laws/State.lean ====
section
/-! SUPPORT. One lemma per field per named update of the state, all true by `rfl`: later proofs do not unfold an update. -/

namespace Sys2Proof.Machine

variable (s : State) (v : Word) (x : Byte) (o : StepOutcome)

@[simp] theorem State.setPc_pc : (s.setPc v).pc = v := rfl
@[simp] theorem State.setPc_sp : (s.setPc v).sp = s.sp := rfl
@[simp] theorem State.setPc_a : (s.setPc v).a = s.a := rfl
@[simp] theorem State.setPc_b : (s.setPc v).b = s.b := rfl
@[simp] theorem State.setPc_c : (s.setPc v).c = s.c := rfl
@[simp] theorem State.setPc_d : (s.setPc v).d = s.d := rfl
@[simp] theorem State.setPc_e : (s.setPc v).e = s.e := rfl
@[simp] theorem State.setPc_f : (s.setPc v).f = s.f := rfl
@[simp] theorem State.setPc_h : (s.setPc v).h = s.h := rfl
@[simp] theorem State.setPc_l : (s.setPc v).l = s.l := rfl
@[simp] theorem State.setPc_ir : (s.setPc v).ir = s.ir := rfl
@[simp] theorem State.setPc_ie : (s.setPc v).ie = s.ie := rfl
@[simp] theorem State.setPc_mem : (s.setPc v).mem = s.mem := rfl
@[simp] theorem State.setPc_outcome : (s.setPc v).outcome = s.outcome := rfl

@[simp] theorem State.setSp_pc : (s.setSp v).pc = s.pc := rfl
@[simp] theorem State.setSp_sp : (s.setSp v).sp = v := rfl
@[simp] theorem State.setSp_a : (s.setSp v).a = s.a := rfl
@[simp] theorem State.setSp_b : (s.setSp v).b = s.b := rfl
@[simp] theorem State.setSp_c : (s.setSp v).c = s.c := rfl
@[simp] theorem State.setSp_d : (s.setSp v).d = s.d := rfl
@[simp] theorem State.setSp_e : (s.setSp v).e = s.e := rfl
@[simp] theorem State.setSp_f : (s.setSp v).f = s.f := rfl
@[simp] theorem State.setSp_h : (s.setSp v).h = s.h := rfl
@[simp] theorem State.setSp_l : (s.setSp v).l = s.l := rfl
@[simp] theorem State.setSp_ir : (s.setSp v).ir = s.ir := rfl
@[simp] theorem State.setSp_ie : (s.setSp v).ie = s.ie := rfl
@[simp] theorem State.setSp_mem : (s.setSp v).mem = s.mem := rfl
@[simp] theorem State.setSp_outcome : (s.setSp v).outcome = s.outcome := rfl

@[simp] theorem State.setA_pc : (s.setA x).pc = s.pc := rfl
@[simp] theorem State.setA_sp : (s.setA x).sp = s.sp := rfl
@[simp] theorem State.setA_a : (s.setA x).a = x := rfl
@[simp] theorem State.setA_b : (s.setA x).b = s.b := rfl
@[simp] theorem State.setA_c : (s.setA x).c = s.c := rfl
@[simp] theorem State.setA_d : (s.setA x).d = s.d := rfl
@[simp] theorem State.setA_e : (s.setA x).e = s.e := rfl
@[simp] theorem State.setA_f : (s.setA x).f = s.f := rfl
@[simp] theorem State.setA_h : (s.setA x).h = s.h := rfl
@[simp] theorem State.setA_l : (s.setA x).l = s.l := rfl
@[simp] theorem State.setA_ir : (s.setA x).ir = s.ir := rfl
@[simp] theorem State.setA_ie : (s.setA x).ie = s.ie := rfl
@[simp] theorem State.setA_mem : (s.setA x).mem = s.mem := rfl
@[simp] theorem State.setA_outcome : (s.setA x).outcome = s.outcome := rfl

@[simp] theorem State.setF_pc : (s.setF x).pc = s.pc := rfl
@[simp] theorem State.setF_sp : (s.setF x).sp = s.sp := rfl
@[simp] theorem State.setF_a : (s.setF x).a = s.a := rfl
@[simp] theorem State.setF_b : (s.setF x).b = s.b := rfl
@[simp] theorem State.setF_c : (s.setF x).c = s.c := rfl
@[simp] theorem State.setF_d : (s.setF x).d = s.d := rfl
@[simp] theorem State.setF_e : (s.setF x).e = s.e := rfl
@[simp] theorem State.setF_f : (s.setF x).f = x := rfl
@[simp] theorem State.setF_h : (s.setF x).h = s.h := rfl
@[simp] theorem State.setF_l : (s.setF x).l = s.l := rfl
@[simp] theorem State.setF_ir : (s.setF x).ir = s.ir := rfl
@[simp] theorem State.setF_ie : (s.setF x).ie = s.ie := rfl
@[simp] theorem State.setF_mem : (s.setF x).mem = s.mem := rfl
@[simp] theorem State.setF_outcome : (s.setF x).outcome = s.outcome := rfl

@[simp] theorem State.setIr_pc : (s.setIr x).pc = s.pc := rfl
@[simp] theorem State.setIr_sp : (s.setIr x).sp = s.sp := rfl
@[simp] theorem State.setIr_a : (s.setIr x).a = s.a := rfl
@[simp] theorem State.setIr_b : (s.setIr x).b = s.b := rfl
@[simp] theorem State.setIr_c : (s.setIr x).c = s.c := rfl
@[simp] theorem State.setIr_d : (s.setIr x).d = s.d := rfl
@[simp] theorem State.setIr_e : (s.setIr x).e = s.e := rfl
@[simp] theorem State.setIr_f : (s.setIr x).f = s.f := rfl
@[simp] theorem State.setIr_h : (s.setIr x).h = s.h := rfl
@[simp] theorem State.setIr_l : (s.setIr x).l = s.l := rfl
@[simp] theorem State.setIr_ir : (s.setIr x).ir = x := rfl
@[simp] theorem State.setIr_ie : (s.setIr x).ie = s.ie := rfl
@[simp] theorem State.setIr_mem : (s.setIr x).mem = s.mem := rfl
@[simp] theorem State.setIr_outcome : (s.setIr x).outcome = s.outcome := rfl

@[simp] theorem State.store_pc : (s.store v x).pc = s.pc := rfl
@[simp] theorem State.store_sp : (s.store v x).sp = s.sp := rfl
@[simp] theorem State.store_a : (s.store v x).a = s.a := rfl
@[simp] theorem State.store_b : (s.store v x).b = s.b := rfl
@[simp] theorem State.store_c : (s.store v x).c = s.c := rfl
@[simp] theorem State.store_d : (s.store v x).d = s.d := rfl
@[simp] theorem State.store_e : (s.store v x).e = s.e := rfl
@[simp] theorem State.store_f : (s.store v x).f = s.f := rfl
@[simp] theorem State.store_h : (s.store v x).h = s.h := rfl
@[simp] theorem State.store_l : (s.store v x).l = s.l := rfl
@[simp] theorem State.store_ir : (s.store v x).ir = s.ir := rfl
@[simp] theorem State.store_ie : (s.store v x).ie = s.ie := rfl
@[simp] theorem State.store_mem : (s.store v x).mem = write s.mem v x := rfl
@[simp] theorem State.store_outcome : (s.store v x).outcome = s.outcome := rfl

@[simp] theorem State.report_pc : (s.report o).pc = s.pc := rfl
@[simp] theorem State.report_sp : (s.report o).sp = s.sp := rfl
@[simp] theorem State.report_a : (s.report o).a = s.a := rfl
@[simp] theorem State.report_b : (s.report o).b = s.b := rfl
@[simp] theorem State.report_c : (s.report o).c = s.c := rfl
@[simp] theorem State.report_d : (s.report o).d = s.d := rfl
@[simp] theorem State.report_e : (s.report o).e = s.e := rfl
@[simp] theorem State.report_f : (s.report o).f = s.f := rfl
@[simp] theorem State.report_h : (s.report o).h = s.h := rfl
@[simp] theorem State.report_l : (s.report o).l = s.l := rfl
@[simp] theorem State.report_ir : (s.report o).ir = s.ir := rfl
@[simp] theorem State.report_ie : (s.report o).ie = s.ie := rfl
@[simp] theorem State.report_mem : (s.report o).mem = s.mem := rfl
@[simp] theorem State.report_outcome : (s.report o).outcome = some o := rfl

@[simp] theorem State.skipImmediate16_pc : (s.skipImmediate16).pc = s.pc + 1 + 1 := rfl
@[simp] theorem State.skipImmediate16_sp : (s.skipImmediate16).sp = s.sp := rfl
@[simp] theorem State.skipImmediate16_a : (s.skipImmediate16).a = s.a := rfl
@[simp] theorem State.skipImmediate16_b : (s.skipImmediate16).b = s.b := rfl
@[simp] theorem State.skipImmediate16_c : (s.skipImmediate16).c = s.c := rfl
@[simp] theorem State.skipImmediate16_d : (s.skipImmediate16).d = s.d := rfl
@[simp] theorem State.skipImmediate16_e : (s.skipImmediate16).e = s.e := rfl
@[simp] theorem State.skipImmediate16_f : (s.skipImmediate16).f = s.f := rfl
@[simp] theorem State.skipImmediate16_h : (s.skipImmediate16).h = s.h := rfl
@[simp] theorem State.skipImmediate16_l : (s.skipImmediate16).l = s.l := rfl
@[simp] theorem State.skipImmediate16_ir : (s.skipImmediate16).ir = s.ir := rfl
@[simp] theorem State.skipImmediate16_ie : (s.skipImmediate16).ie = s.ie := rfl
@[simp] theorem State.skipImmediate16_mem : (s.skipImmediate16).mem = s.mem := rfl
@[simp] theorem State.skipImmediate16_outcome : (s.skipImmediate16).outcome = s.outcome := rfl

@[simp] theorem writePair_bc_pc : (writePair .bc v s).pc = s.pc := rfl
@[simp] theorem writePair_bc_sp : (writePair .bc v s).sp = s.sp := rfl
@[simp] theorem writePair_bc_a : (writePair .bc v s).a = s.a := rfl
@[simp] theorem writePair_bc_b : (writePair .bc v s).b = hiByte v := rfl
@[simp] theorem writePair_bc_c : (writePair .bc v s).c = loByte v := rfl
@[simp] theorem writePair_bc_d : (writePair .bc v s).d = s.d := rfl
@[simp] theorem writePair_bc_e : (writePair .bc v s).e = s.e := rfl
@[simp] theorem writePair_bc_f : (writePair .bc v s).f = s.f := rfl
@[simp] theorem writePair_bc_h : (writePair .bc v s).h = s.h := rfl
@[simp] theorem writePair_bc_l : (writePair .bc v s).l = s.l := rfl
@[simp] theorem writePair_bc_ir : (writePair .bc v s).ir = s.ir := rfl
@[simp] theorem writePair_bc_ie : (writePair .bc v s).ie = s.ie := rfl
@[simp] theorem writePair_bc_mem : (writePair .bc v s).mem = s.mem := rfl
@[simp] theorem writePair_bc_outcome : (writePair .bc v s).outcome = s.outcome := rfl

@[simp] theorem writePair_de_pc : (writePair .de v s).pc = s.pc := rfl
@[simp] theorem writePair_de_sp : (writePair .de v s).sp = s.sp := rfl
@[simp] theorem writePair_de_a : (writePair .de v s).a = s.a := rfl
@[simp] theorem writePair_de_b : (writePair .de v s).b = s.b := rfl
@[simp] theorem writePair_de_c : (writePair .de v s).c = s.c := rfl
@[simp] theorem writePair_de_d : (writePair .de v s).d = hiByte v := rfl
@[simp] theorem writePair_de_e : (writePair .de v s).e = loByte v := rfl
@[simp] theorem writePair_de_f : (writePair .de v s).f = s.f := rfl
@[simp] theorem writePair_de_h : (writePair .de v s).h = s.h := rfl
@[simp] theorem writePair_de_l : (writePair .de v s).l = s.l := rfl
@[simp] theorem writePair_de_ir : (writePair .de v s).ir = s.ir := rfl
@[simp] theorem writePair_de_ie : (writePair .de v s).ie = s.ie := rfl
@[simp] theorem writePair_de_mem : (writePair .de v s).mem = s.mem := rfl
@[simp] theorem writePair_de_outcome : (writePair .de v s).outcome = s.outcome := rfl

@[simp] theorem writePair_hl_pc : (writePair .hl v s).pc = s.pc := rfl
@[simp] theorem writePair_hl_sp : (writePair .hl v s).sp = s.sp := rfl
@[simp] theorem writePair_hl_a : (writePair .hl v s).a = s.a := rfl
@[simp] theorem writePair_hl_b : (writePair .hl v s).b = s.b := rfl
@[simp] theorem writePair_hl_c : (writePair .hl v s).c = s.c := rfl
@[simp] theorem writePair_hl_d : (writePair .hl v s).d = s.d := rfl
@[simp] theorem writePair_hl_e : (writePair .hl v s).e = s.e := rfl
@[simp] theorem writePair_hl_f : (writePair .hl v s).f = s.f := rfl
@[simp] theorem writePair_hl_h : (writePair .hl v s).h = hiByte v := rfl
@[simp] theorem writePair_hl_l : (writePair .hl v s).l = loByte v := rfl
@[simp] theorem writePair_hl_ir : (writePair .hl v s).ir = s.ir := rfl
@[simp] theorem writePair_hl_ie : (writePair .hl v s).ie = s.ie := rfl
@[simp] theorem writePair_hl_mem : (writePair .hl v s).mem = s.mem := rfl
@[simp] theorem writePair_hl_outcome : (writePair .hl v s).outcome = s.outcome := rfl

@[simp] theorem fetchToIr_pc : (fetchToIr s).pc = s.pc + 1 := rfl
@[simp] theorem fetchToIr_sp : (fetchToIr s).sp = s.sp := rfl
@[simp] theorem fetchToIr_a : (fetchToIr s).a = s.a := rfl
@[simp] theorem fetchToIr_b : (fetchToIr s).b = s.b := rfl
@[simp] theorem fetchToIr_c : (fetchToIr s).c = s.c := rfl
@[simp] theorem fetchToIr_d : (fetchToIr s).d = s.d := rfl
@[simp] theorem fetchToIr_e : (fetchToIr s).e = s.e := rfl
@[simp] theorem fetchToIr_f : (fetchToIr s).f = s.f := rfl
@[simp] theorem fetchToIr_h : (fetchToIr s).h = s.h := rfl
@[simp] theorem fetchToIr_l : (fetchToIr s).l = s.l := rfl
@[simp] theorem fetchToIr_ir : (fetchToIr s).ir = read s.mem s.pc := rfl
@[simp] theorem fetchToIr_ie : (fetchToIr s).ie = s.ie := rfl
@[simp] theorem fetchToIr_mem : (fetchToIr s).mem = s.mem := rfl
@[simp] theorem fetchToIr_outcome : (fetchToIr s).outcome = s.outcome := rfl

end Sys2Proof.Machine
end

