-- ==== Sys2Proof/Laws/Exec.lean ====
section
/-! SUPPORT. What a meaning and a step can do, each said once; the invariants are read off from these. -/

namespace Sys2Proof.Machine

/-! ## The fetch phase -/

theorem fetchPhase_of_ne_prefix {s : State} (h : read s.mem s.pc ≠ cbPrefix) : fetchPhase s = fetchToIr s := by
  simp [fetchPhase, h]

theorem fetchPhase_of_prefix {s : State} (h : read s.mem s.pc = cbPrefix) :
    fetchPhase s = fetchToIr (fetchToIr s) := by
  simp [fetchPhase, h]

/-- The fetch phase writes `pc` and `ir` only (10_state.md R24, first row). -/
theorem fetchPhase_eq (s : State) :
    fetchPhase s = { s with pc := (fetchPhase s).pc, ir := (fetchPhase s).ir } := by
  unfold fetchPhase
  split <;> rfl

/-! ## The meanings -/

theorem pc_add_one_sub_one (w : Word) : w + 1 - 1 = w := by
  rw [BitVec.add_sub_cancel]

theorem pc_add_two_sub_two (w : Word) : w + 1 + 1 - 2 = w := by
  have : w + 1 + 1 = w + 2 := by rw [BitVec.add_assoc]; rfl
  rw [this, BitVec.add_sub_cancel]

/-- Every instruction whose base opcode has no dispatch case has the shared meaning `raiseForBase`
(44_prefix_and_unimplemented.md R96). -/
theorem exec_eq_raiseForBase (i : Instr) (s : State) (h31 : i.opcode ≠ 0x31) (h21 : i.opcode ≠ 0x21)
    (hcb : i.opcode ≠ 0xCB) (haf : i.opcode ≠ 0xAF) (h32 : i.opcode ≠ 0x32) :
    exec i s = raiseForBase i.opcode s := by
  cases i
  case ldSpD16 => exact absurd rfl h31
  case ldHlD16 => exact absurd rfl h21
  case cbXx => exact absurd rfl hcb
  case xorA => exact absurd rfl haf
  case ldHldA => exact absurd rfl h32
  all_goals rfl

/-! ## The step -/

/-- What a step does, by the byte at `pc`: six cases, one next state each. -/
theorem step_cases (s : State) :
    (read s.mem s.pc = 0x31 ∧
      step s = execLdSpD16 (wordOfBytes (read s.mem (s.pc + 2)) (read s.mem (s.pc + 1))) (fetchToIr s)) ∨
    (read s.mem s.pc = 0x21 ∧
      step s = execLdHlD16 (wordOfBytes (read s.mem (s.pc + 2)) (read s.mem (s.pc + 1))) (fetchToIr s)) ∨
    (read s.mem s.pc = 0xCB ∧ step s = execCbXx (read s.mem (s.pc + 1)) (fetchToIr (fetchToIr s))) ∨
    (read s.mem s.pc = 0xAF ∧ step s = execXorA (fetchToIr s)) ∨
    (read s.mem s.pc = 0x32 ∧ step s = execLdHldA (fetchToIr s)) ∨
    (read s.mem s.pc ≠ 0x31 ∧ read s.mem s.pc ≠ 0x21 ∧ read s.mem s.pc ≠ 0xCB ∧ read s.mem s.pc ≠ 0xAF ∧
      read s.mem s.pc ≠ 0x32 ∧ step s = raiseForBase (read s.mem s.pc) (fetchToIr s)) := by
  have hne : ∀ b : Byte, b ≠ cbPrefix → read s.mem s.pc = b → fetchPhase s = fetchToIr s :=
    fun b hb h => fetchPhase_of_ne_prefix (h ▸ hb)
  obtain ⟨h, hd⟩ | ⟨h, hd⟩ | ⟨h, hd⟩ | ⟨h, hd⟩ | ⟨h, hd⟩ | ⟨h31, h21, hcb, haf, h32, i, hd, hop⟩ :=
    decode_three (read s.mem s.pc) (read s.mem (s.pc + 1)) (read s.mem (s.pc + 2))
  · refine .inl ⟨h, ?_⟩
    simp only [step, instructionBytes, hd, hne _ (by decide) h]
    rfl
  · refine .inr (.inl ⟨h, ?_⟩)
    simp only [step, instructionBytes, hd, hne _ (by decide) h]
    rfl
  · refine .inr (.inr (.inl ⟨h, ?_⟩))
    simp only [step, instructionBytes, hd, fetchPhase_of_prefix h]
    rfl
  · refine .inr (.inr (.inr (.inl ⟨h, ?_⟩)))
    simp only [step, instructionBytes, hd, hne _ (by decide) h]
    rfl
  · refine .inr (.inr (.inr (.inr (.inl ⟨h, ?_⟩))))
    simp only [step, instructionBytes, hd, hne _ (by decide) h]
    rfl
  · refine .inr (.inr (.inr (.inr (.inr ⟨h31, h21, hcb, haf, h32, ?_⟩))))
    simp only [step, instructionBytes, hd, fetchPhase_of_ne_prefix hcb]
    rw [← hop] at h31 h21 hcb haf h32
    rw [exec_eq_raiseForBase i _ h31 h21 hcb haf h32, hop]

end Sys2Proof.Machine
end

