-- ==== Sys2Proof/Laws/Driver.lean ====
section
/-! SUPPORT. One step peeled off a run: the host's `Core.run` and the driver's `runFrom`. -/

namespace Sys2Proof.Machine

theorem step_next (s : State) : ∃ t, step s = .next t := by
  obtain ⟨-, h⟩ | ⟨-, h⟩ | ⟨-, h⟩ | ⟨-, h⟩ | ⟨-, h⟩ | ⟨-, -, -, -, -, h⟩ := step_cases s <;> exact ⟨_, h⟩

/-- The host's run takes one step and goes on from there. -/
theorem core_run_succ {s t : State} (n : Nat) (h : step s = .next t) :
    Host.Core.run Sys2Proof.core (n + 1) s = Host.Core.run Sys2Proof.core n t := by
  have h' : Sys2Proof.core.step s = .next t := h
  have hrun := Host.Core.run.eq_2 Sys2Proof.core s n
  rw [h'] at hrun
  exact hrun

/-- The driver goes on after a step that raised nothing. -/
theorem runFrom_succ_of_defined {s t : State} (trace : Bool) (done n : Nat) (lines : List TraceLine)
    (h : step s = .next t) (hr : t.raised = none) :
    runFrom trace done lines (n + 1) s = runFrom trace (done + 1) (lines ++ emitTrace trace t) n t := by
  simp only [runFrom, h, hr]

/-- The driver stops after a step that raised. -/
theorem runFrom_succ_of_raised {s t : State} {r : UnimplementedRecord} (trace : Bool) (done n : Nat)
    (lines : List TraceLine) (h : step s = .next t) (hr : t.raised = some r) :
    runFrom trace done lines (n + 1) s =
      .next { result := .stopped (done + 1) r, final := t, console := lines ++ emitTrace trace t } := by
  simp only [runFrom, h, hr]

end Sys2Proof.Machine
end

