-- ==== Sys2Proof/Laws/Memory.lean ====
section
/-! SUPPORT. The laws of the memory list: what a cell holds after a store, `read` after `write` and `loadRom`
(20_memory.md R34 to R36, R39), and that every operation keeps the canonical form. -/

namespace Sys2Proof.Machine

/-! ## Cells -/

theorem cellAt_of_absent {m : Memory} {k : Nat} (h : ∀ c ∈ m, c.1 ≠ k) : cellAt m k = unlistedByte := by
  induction m with
  | nil => rfl
  | cons c m ih =>
    have hc : c.1 ≠ k := h c (by simp)
    simp only [cellAt, hc, if_false]
    exact ih (fun c' hc' => h c' (by simp [hc']))

theorem cellAt_filter_other (m : Memory) {k j : Nat} (hj : j ≠ k) :
    cellAt (m.filter (fun c => c.1 != k)) j = cellAt m j := by
  induction m with
  | nil => rfl
  | cons c m ih =>
    by_cases h : c.1 = k
    · have hcj : c.1 ≠ j := fun e => hj (e.symm.trans h)
      simpa [List.filter_cons, h, cellAt, hcj, Ne.symm hj] using ih
    · by_cases hcj : c.1 = j <;> simp [h, cellAt, hcj, ih, hj]

theorem cellAt_insertCell_same {m : Memory} {k : Nat} (v : Byte) (h : ∀ c ∈ m, c.1 ≠ k) :
    cellAt (insertCell k v m) k = v := by
  induction m with
  | nil => simp [insertCell, cellAt]
  | cons c m ih =>
    have hc : c.1 ≠ k := h c (by simp)
    by_cases hlt : k < c.1
    · simp [insertCell, cellAt, hlt]
    · simp [insertCell, cellAt, hlt, hc, ih (fun c' hc' => h c' (by simp [hc']))]

theorem cellAt_insertCell_other (m : Memory) {k j : Nat} (v : Byte) (hj : j ≠ k) :
    cellAt (insertCell k v m) j = cellAt m j := by
  induction m with
  | nil => simp [insertCell, cellAt, Ne.symm hj]
  | cons c m ih =>
    by_cases hlt : k < c.1
    · simp [insertCell, cellAt, hlt, Ne.symm hj]
    · simp [insertCell, cellAt, hlt, ih]

/-- What a cell holds after a store, in any list, canonical or not. -/
theorem cellAt_setCell (m : Memory) (k j : Nat) (v : Byte) :
    cellAt (setCell m k v) j = if j = k then v else cellAt m j := by
  have habs : ∀ c ∈ m.filter (fun c => c.1 != k), c.1 ≠ k := by
    intro c hc
    simpa using (List.mem_filter.mp hc).2
  unfold setCell
  by_cases hj : j = k <;> by_cases hv : v = unlistedByte
  · simp only [hj, hv, if_true]
    exact cellAt_of_absent habs
  · simp only [hj, hv, if_true, if_false]
    exact cellAt_insertCell_same v habs
  · simp only [hj, hv, if_true, if_false]
    exact cellAt_filter_other m hj
  · simp only [hj, hv, if_false]
    rw [cellAt_insertCell_other _ v hj, cellAt_filter_other m hj]

/-! ## The three operations, by address -/

theorem read_eq (m : Memory) (addr : Word) :
    read m addr = if mapped addr then cellAt m addr.toNat else unmappedByte := by
  unfold read mapped
  rcases h : decodeAddress addr with _ | ⟨r, off⟩
  · rfl
  · simp [(decodeAddress_spec h).1]

theorem write_eq (m : Memory) (addr : Word) (v : Byte) :
    write m addr v = if writable addr then setCell m addr.toNat v else m := by
  unfold write writable
  rcases h : decodeAddress addr with _ | ⟨r, off⟩
  · rfl
  · cases hr : r.isRom <;> simp [(decodeAddress_spec h).1, hr]

theorem loadRom_eq (m : Memory) (addr : Word) (v : Byte) :
    loadRom m addr v = if loadable addr then setCell m addr.toNat v else m := by
  unfold loadRom loadable
  rcases h : decodeAddress addr with _ | ⟨r, off⟩
  · rfl
  · cases hr : r.isRom <;> simp [(decodeAddress_spec h).1, hr]

theorem place_eq (m : Memory) (addr : Word) (v : Byte) :
    place m addr v = if mapped addr then setCell m addr.toNat v else m := by
  unfold place
  by_cases hl : loadable addr = true
  · simp [hl, loadRom_eq, mapped_of_loadable hl]
  · by_cases hm : mapped addr = true
    · have hw := writable_eq_not_loadable hm
      simp_all [write_eq]
    · have hw : writable addr = false := by
        rw [Bool.eq_false_iff]
        exact fun h => hm (mapped_of_writable h)
      simp_all [write_eq]

/-! ## `read` after a store -/

theorem read_setCell (m : Memory) (addr b : Word) (v : Byte) (h : mapped addr = true) :
    read (setCell m addr.toNat v) b = if b = addr then v else read m b := by
  rw [read_eq, read_eq, cellAt_setCell]
  by_cases hb : b = addr
  · subst hb
    simp [h]
  · have hne : b.toNat ≠ addr.toNat := fun e => hb (BitVec.eq_of_toNat_eq e)
    simp [hb, hne]

/-- A `write` changes the byte it stores to, if its region takes stores, and no other (20_memory.md R35, R39). -/
theorem read_write (m : Memory) (addr b : Word) (v : Byte) :
    read (write m addr v) b = if b = addr ∧ writable addr = true then v else read m b := by
  rw [write_eq]
  by_cases hw : writable addr = true
  · simp [hw, read_setCell m addr b v (mapped_of_writable hw)]
  · simp [hw]

/-- A `loadRom` changes the byte it stores to, if it lies in ROM, and no other (20_memory.md R36). -/
theorem read_loadRom (m : Memory) (addr b : Word) (v : Byte) :
    read (loadRom m addr v) b = if b = addr ∧ loadable addr = true then v else read m b := by
  rw [loadRom_eq]
  by_cases hl : loadable addr = true
  · simp [hl, read_setCell m addr b v (mapped_of_loadable hl)]
  · simp [hl]

theorem read_place (m : Memory) (addr b : Word) (v : Byte) :
    read (place m addr v) b = if b = addr ∧ mapped addr = true then v else read m b := by
  rw [place_eq]
  by_cases hm : mapped addr = true
  · simp [hm, read_setCell m addr b v hm]
  · simp [hm]

/-! ## The canonical form -/

theorem wf_cons_iff (k : Nat) (v : Byte) (m : Memory) :
    Memory.wf ((k, v) :: m) = true ↔
      k < 65536 ∧ mapped (BitVec.ofNat 16 k) = true ∧ v ≠ unlistedByte ∧ (∀ c ∈ m, k < c.1) ∧ Memory.wf m = true := by
  simp [Memory.wf, and_assoc]

theorem wf_filter {m : Memory} (p : Host.Cell → Bool) (h : Memory.wf m = true) : Memory.wf (m.filter p) = true := by
  induction m with
  | nil => rfl
  | cons c m ih =>
    obtain ⟨k, v⟩ := c
    obtain ⟨hk, hm, hv, hr, hw⟩ := (wf_cons_iff k v m).mp h
    rw [List.filter_cons]
    split
    · exact (wf_cons_iff _ _ _).mpr ⟨hk, hm, hv, fun c hc => hr c (List.mem_filter.mp hc).1, ih hw⟩
    · exact ih hw

theorem mem_insertCell {c : Host.Cell} {k : Nat} {v : Byte} {m : Memory} (h : c ∈ insertCell k v m) :
    c = (k, v) ∨ c ∈ m := by
  induction m with
  | nil => simpa [insertCell] using h
  | cons d m ih =>
    by_cases hlt : k < d.1
    · simpa [insertCell, hlt] using h
    · simp only [insertCell, hlt, if_false, List.mem_cons] at h ⊢
      rcases h with h | h
      · exact .inr (.inl h)
      · exact (ih h).imp_right .inr

theorem wf_insertCell {m : Memory} {k : Nat} {v : Byte} (hm : Memory.wf m = true) (hk : k < 65536)
    (hmap : mapped (BitVec.ofNat 16 k) = true) (hv : v ≠ unlistedByte) (habs : ∀ c ∈ m, c.1 ≠ k) :
    Memory.wf (insertCell k v m) = true := by
  induction m with
  | nil => exact (wf_cons_iff _ _ _).mpr ⟨hk, hmap, hv, by simp, rfl⟩
  | cons c m ih =>
    obtain ⟨j, w⟩ := c
    obtain ⟨hj, hjm, hw, hr, hwf⟩ := (wf_cons_iff j w m).mp hm
    by_cases hlt : k < j
    · simp only [insertCell, hlt, if_true]
      refine (wf_cons_iff _ _ _).mpr ⟨hk, hmap, hv, ?_, hm⟩
      intro c hc
      rcases List.mem_cons.mp hc with rfl | hc
      · exact hlt
      · exact hlt.trans (hr c hc)
    · have hne : j ≠ k := habs (j, w) (by simp)
      simp only [insertCell, hlt, if_false]
      refine (wf_cons_iff _ _ _).mpr ⟨hj, hjm, hw, ?_, ih hwf (fun c hc => habs c (by simp [hc]))⟩
      intro c hc
      rcases mem_insertCell hc with rfl | hc
      · show j < k
        omega
      · exact hr c hc

theorem wf_setCell {m : Memory} {k : Nat} (v : Byte) (hm : Memory.wf m = true) (hk : k < 65536)
    (hmap : mapped (BitVec.ofNat 16 k) = true) : Memory.wf (setCell m k v) = true := by
  unfold setCell
  by_cases hv : v = unlistedByte
  · simpa only [hv, if_true] using wf_filter _ hm
  · simp only [hv, if_false]
    refine wf_insertCell (wf_filter _ hm) hk hmap hv (fun c hc => ?_)
    simpa using (List.mem_filter.mp hc).2

theorem wf_setCell_addr {m : Memory} {addr : Word} (v : Byte) (hm : Memory.wf m = true) (hmap : mapped addr = true) :
    Memory.wf (setCell m addr.toNat v) = true :=
  wf_setCell v hm addr.isLt (by simpa using hmap)

theorem wf_write {m : Memory} (addr : Word) (v : Byte) (hm : Memory.wf m = true) : Memory.wf (write m addr v) = true := by
  rw [write_eq]
  split
  · exact wf_setCell_addr v hm (mapped_of_writable ‹_›)
  · exact hm

theorem wf_loadRom {m : Memory} (addr : Word) (v : Byte) (hm : Memory.wf m = true) :
    Memory.wf (loadRom m addr v) = true := by
  rw [loadRom_eq]
  split
  · exact wf_setCell_addr v hm (mapped_of_loadable ‹_›)
  · exact hm

theorem wf_place {m : Memory} (addr : Word) (v : Byte) (hm : Memory.wf m = true) : Memory.wf (place m addr v) = true := by
  rw [place_eq]
  split
  · exact wf_setCell_addr v hm ‹_›
  · exact hm

theorem wf_placeBytes {vs : List Byte} {m : Memory} (addr : Word) (hm : Memory.wf m = true) :
    Memory.wf (placeBytes m addr vs) = true := by
  induction vs generalizing m addr with
  | nil => exact hm
  | cons v vs ih => exact ih _ (wf_place _ _ hm)

theorem wf_loadFrom {image : List Byte} {m : Memory} (i : Nat) (hm : Memory.wf m = true) :
    Memory.wf (loadFrom i image m) = true := by
  induction image generalizing i m with
  | nil => exact hm
  | cons v vs ih =>
    unfold loadFrom
    split
    · exact ih _ (wf_loadRom _ _ hm)
    · exact hm

/-- Two canonical lists with the same cells are the same list: equal memories are equal data. -/
theorem wf_ext {m n : Memory} (hm : Memory.wf m = true) (hn : Memory.wf n = true)
    (h : ∀ k, cellAt m k = cellAt n k) : m = n := by
  induction m generalizing n with
  | nil =>
    cases n with
    | nil => rfl
    | cons c n =>
      obtain ⟨k, v⟩ := c
      have hv := ((wf_cons_iff k v n).mp hn).2.2.1
      exact absurd (by simpa [cellAt] using (h k).symm) hv
  | cons c m ih =>
    obtain ⟨k, v⟩ := c
    obtain ⟨-, -, hv, hr, hw⟩ := (wf_cons_iff k v m).mp hm
    have hkv : cellAt n k = v := by simpa [cellAt] using (h k).symm
    cases n with
    | nil => exact absurd hkv.symm hv
    | cons d n =>
      obtain ⟨j, w⟩ := d
      obtain ⟨-, -, hw', hr', hwn⟩ := (wf_cons_iff j w n).mp hn
      have hjw : cellAt ((k, v) :: m) j = w := by simpa [cellAt] using h j
      have hkj : k = j := by
        rcases lt_trichotomy k j with hlt | heq | hgt
        · refine absurd ?_ hv
          rw [← hkv]
          refine cellAt_of_absent (fun c hc => ?_)
          rcases List.mem_cons.mp hc with rfl | hc
          · exact Nat.ne_of_gt hlt
          · exact Nat.ne_of_gt (hlt.trans (hr' c hc))
        · exact heq
        · refine absurd ?_ hw'
          rw [← hjw]
          refine cellAt_of_absent (fun c hc => ?_)
          rcases List.mem_cons.mp hc with rfl | hc
          · exact Nat.ne_of_gt hgt
          · exact Nat.ne_of_gt (hgt.trans (hr c hc))
      subst hkj
      have hvw : v = w := by simpa [cellAt] using h k
      subst hvw
      congr 1
      refine ih hw hwn (fun i => ?_)
      by_cases hik : k = i
      · subst hik
        rw [cellAt_of_absent (fun c hc => Nat.ne_of_gt (hr c hc)),
          cellAt_of_absent (fun c hc => Nat.ne_of_gt (hr' c hc))]
      · simpa [cellAt, hik] using h i

end Sys2Proof.Machine
end

