-- ==== Sys2Proof/Laws/PerInstr.lean ====
section
/-! SUPPORT. Statements about every instruction as syntax, one lemma per constructor (LAWS.json). -/

/-! ## EncodeShape: the bytes of an instruction have the length and the first byte of its format -/

/-- Its bytes begin with its base opcode and are as many as that opcode's format has, so it is well formed
(30_encoding.md R55 to R57). -/
def Sys2Proof.Laws.EncodeShape.Statement (i : Sys2Proof.Instr) : Prop :=
  (∃ rest, Sys2Proof.encode i = i.opcode :: rest ∧ rest.length + 1 = Sys2Proof.lengthOf i.opcode) ∧ i.wellFormed = true

namespace Sys2Proof.Laws.EncodeShape

/-- A one-byte instruction has the shape. -/
theorem of_op (i : Sys2Proof.Instr) (h : Sys2Proof.encode i = [i.opcode]) (hl : Sys2Proof.lengthOf i.opcode = 1) :
    Statement i :=
  ⟨⟨[], h, hl.symm⟩, by simp [Instr.wellFormed, h, oneInstruction, hl]⟩

theorem unimpl00 : Statement .unimpl00 := of_op _ rfl rfl
theorem unimpl01 : Statement .unimpl01 := of_op _ rfl rfl
theorem unimpl02 : Statement .unimpl02 := of_op _ rfl rfl
theorem unimpl03 : Statement .unimpl03 := of_op _ rfl rfl
theorem unimpl04 : Statement .unimpl04 := of_op _ rfl rfl
theorem unimpl05 : Statement .unimpl05 := of_op _ rfl rfl
theorem unimpl06 : Statement .unimpl06 := of_op _ rfl rfl
theorem unimpl07 : Statement .unimpl07 := of_op _ rfl rfl
theorem unimpl08 : Statement .unimpl08 := of_op _ rfl rfl
theorem unimpl09 : Statement .unimpl09 := of_op _ rfl rfl
theorem unimpl0A : Statement .unimpl0A := of_op _ rfl rfl
theorem unimpl0B : Statement .unimpl0B := of_op _ rfl rfl
theorem unimpl0C : Statement .unimpl0C := of_op _ rfl rfl
theorem unimpl0D : Statement .unimpl0D := of_op _ rfl rfl
theorem unimpl0E : Statement .unimpl0E := of_op _ rfl rfl
theorem unimpl0F : Statement .unimpl0F := of_op _ rfl rfl
theorem unimpl10 : Statement .unimpl10 := of_op _ rfl rfl
theorem unimpl11 : Statement .unimpl11 := of_op _ rfl rfl
theorem unimpl12 : Statement .unimpl12 := of_op _ rfl rfl
theorem unimpl13 : Statement .unimpl13 := of_op _ rfl rfl
theorem unimpl14 : Statement .unimpl14 := of_op _ rfl rfl
theorem unimpl15 : Statement .unimpl15 := of_op _ rfl rfl
theorem unimpl16 : Statement .unimpl16 := of_op _ rfl rfl
theorem unimpl17 : Statement .unimpl17 := of_op _ rfl rfl
theorem unimpl18 : Statement .unimpl18 := of_op _ rfl rfl
theorem unimpl19 : Statement .unimpl19 := of_op _ rfl rfl
theorem unimpl1A : Statement .unimpl1A := of_op _ rfl rfl
theorem unimpl1B : Statement .unimpl1B := of_op _ rfl rfl
theorem unimpl1C : Statement .unimpl1C := of_op _ rfl rfl
theorem unimpl1D : Statement .unimpl1D := of_op _ rfl rfl
theorem unimpl1E : Statement .unimpl1E := of_op _ rfl rfl
theorem unimpl1F : Statement .unimpl1F := of_op _ rfl rfl
theorem unimpl20 : Statement .unimpl20 := of_op _ rfl rfl
theorem ldHlD16 (d16 : Sys2Proof.Word) : Statement (.ldHlD16 d16) := ⟨⟨_, rfl, rfl⟩, rfl⟩
theorem unimpl22 : Statement .unimpl22 := of_op _ rfl rfl
theorem unimpl23 : Statement .unimpl23 := of_op _ rfl rfl
theorem unimpl24 : Statement .unimpl24 := of_op _ rfl rfl
theorem unimpl25 : Statement .unimpl25 := of_op _ rfl rfl
theorem unimpl26 : Statement .unimpl26 := of_op _ rfl rfl
theorem unimpl27 : Statement .unimpl27 := of_op _ rfl rfl
theorem unimpl28 : Statement .unimpl28 := of_op _ rfl rfl
theorem unimpl29 : Statement .unimpl29 := of_op _ rfl rfl
theorem unimpl2A : Statement .unimpl2A := of_op _ rfl rfl
theorem unimpl2B : Statement .unimpl2B := of_op _ rfl rfl
theorem unimpl2C : Statement .unimpl2C := of_op _ rfl rfl
theorem unimpl2D : Statement .unimpl2D := of_op _ rfl rfl
theorem unimpl2E : Statement .unimpl2E := of_op _ rfl rfl
theorem unimpl2F : Statement .unimpl2F := of_op _ rfl rfl
theorem unimpl30 : Statement .unimpl30 := of_op _ rfl rfl
theorem ldSpD16 (d16 : Sys2Proof.Word) : Statement (.ldSpD16 d16) := ⟨⟨_, rfl, rfl⟩, rfl⟩
theorem ldHldA : Statement .ldHldA := of_op _ rfl rfl
theorem unimpl33 : Statement .unimpl33 := of_op _ rfl rfl
theorem unimpl34 : Statement .unimpl34 := of_op _ rfl rfl
theorem unimpl35 : Statement .unimpl35 := of_op _ rfl rfl
theorem unimpl36 : Statement .unimpl36 := of_op _ rfl rfl
theorem unimpl37 : Statement .unimpl37 := of_op _ rfl rfl
theorem unimpl38 : Statement .unimpl38 := of_op _ rfl rfl
theorem unimpl39 : Statement .unimpl39 := of_op _ rfl rfl
theorem unimpl3A : Statement .unimpl3A := of_op _ rfl rfl
theorem unimpl3B : Statement .unimpl3B := of_op _ rfl rfl
theorem unimpl3C : Statement .unimpl3C := of_op _ rfl rfl
theorem unimpl3D : Statement .unimpl3D := of_op _ rfl rfl
theorem unimpl3E : Statement .unimpl3E := of_op _ rfl rfl
theorem unimpl3F : Statement .unimpl3F := of_op _ rfl rfl
theorem unimpl40 : Statement .unimpl40 := of_op _ rfl rfl
theorem unimpl41 : Statement .unimpl41 := of_op _ rfl rfl
theorem unimpl42 : Statement .unimpl42 := of_op _ rfl rfl
theorem unimpl43 : Statement .unimpl43 := of_op _ rfl rfl
theorem unimpl44 : Statement .unimpl44 := of_op _ rfl rfl
theorem unimpl45 : Statement .unimpl45 := of_op _ rfl rfl
theorem unimpl46 : Statement .unimpl46 := of_op _ rfl rfl
theorem unimpl47 : Statement .unimpl47 := of_op _ rfl rfl
theorem unimpl48 : Statement .unimpl48 := of_op _ rfl rfl
theorem unimpl49 : Statement .unimpl49 := of_op _ rfl rfl
theorem unimpl4A : Statement .unimpl4A := of_op _ rfl rfl
theorem unimpl4B : Statement .unimpl4B := of_op _ rfl rfl
theorem unimpl4C : Statement .unimpl4C := of_op _ rfl rfl
theorem unimpl4D : Statement .unimpl4D := of_op _ rfl rfl
theorem unimpl4E : Statement .unimpl4E := of_op _ rfl rfl
theorem unimpl4F : Statement .unimpl4F := of_op _ rfl rfl
theorem unimpl50 : Statement .unimpl50 := of_op _ rfl rfl
theorem unimpl51 : Statement .unimpl51 := of_op _ rfl rfl
theorem unimpl52 : Statement .unimpl52 := of_op _ rfl rfl
theorem unimpl53 : Statement .unimpl53 := of_op _ rfl rfl
theorem unimpl54 : Statement .unimpl54 := of_op _ rfl rfl
theorem unimpl55 : Statement .unimpl55 := of_op _ rfl rfl
theorem unimpl56 : Statement .unimpl56 := of_op _ rfl rfl
theorem unimpl57 : Statement .unimpl57 := of_op _ rfl rfl
theorem unimpl58 : Statement .unimpl58 := of_op _ rfl rfl
theorem unimpl59 : Statement .unimpl59 := of_op _ rfl rfl
theorem unimpl5A : Statement .unimpl5A := of_op _ rfl rfl
theorem unimpl5B : Statement .unimpl5B := of_op _ rfl rfl
theorem unimpl5C : Statement .unimpl5C := of_op _ rfl rfl
theorem unimpl5D : Statement .unimpl5D := of_op _ rfl rfl
theorem unimpl5E : Statement .unimpl5E := of_op _ rfl rfl
theorem unimpl5F : Statement .unimpl5F := of_op _ rfl rfl
theorem unimpl60 : Statement .unimpl60 := of_op _ rfl rfl
theorem unimpl61 : Statement .unimpl61 := of_op _ rfl rfl
theorem unimpl62 : Statement .unimpl62 := of_op _ rfl rfl
theorem unimpl63 : Statement .unimpl63 := of_op _ rfl rfl
theorem unimpl64 : Statement .unimpl64 := of_op _ rfl rfl
theorem unimpl65 : Statement .unimpl65 := of_op _ rfl rfl
theorem unimpl66 : Statement .unimpl66 := of_op _ rfl rfl
theorem unimpl67 : Statement .unimpl67 := of_op _ rfl rfl
theorem unimpl68 : Statement .unimpl68 := of_op _ rfl rfl
theorem unimpl69 : Statement .unimpl69 := of_op _ rfl rfl
theorem unimpl6A : Statement .unimpl6A := of_op _ rfl rfl
theorem unimpl6B : Statement .unimpl6B := of_op _ rfl rfl
theorem unimpl6C : Statement .unimpl6C := of_op _ rfl rfl
theorem unimpl6D : Statement .unimpl6D := of_op _ rfl rfl
theorem unimpl6E : Statement .unimpl6E := of_op _ rfl rfl
theorem unimpl6F : Statement .unimpl6F := of_op _ rfl rfl
theorem unimpl70 : Statement .unimpl70 := of_op _ rfl rfl
theorem unimpl71 : Statement .unimpl71 := of_op _ rfl rfl
theorem unimpl72 : Statement .unimpl72 := of_op _ rfl rfl
theorem unimpl73 : Statement .unimpl73 := of_op _ rfl rfl
theorem unimpl74 : Statement .unimpl74 := of_op _ rfl rfl
theorem unimpl75 : Statement .unimpl75 := of_op _ rfl rfl
theorem unimpl76 : Statement .unimpl76 := of_op _ rfl rfl
theorem unimpl77 : Statement .unimpl77 := of_op _ rfl rfl
theorem unimpl78 : Statement .unimpl78 := of_op _ rfl rfl
theorem unimpl79 : Statement .unimpl79 := of_op _ rfl rfl
theorem unimpl7A : Statement .unimpl7A := of_op _ rfl rfl
theorem unimpl7B : Statement .unimpl7B := of_op _ rfl rfl
theorem unimpl7C : Statement .unimpl7C := of_op _ rfl rfl
theorem unimpl7D : Statement .unimpl7D := of_op _ rfl rfl
theorem unimpl7E : Statement .unimpl7E := of_op _ rfl rfl
theorem unimpl7F : Statement .unimpl7F := of_op _ rfl rfl
theorem unimpl80 : Statement .unimpl80 := of_op _ rfl rfl
theorem unimpl81 : Statement .unimpl81 := of_op _ rfl rfl
theorem unimpl82 : Statement .unimpl82 := of_op _ rfl rfl
theorem unimpl83 : Statement .unimpl83 := of_op _ rfl rfl
theorem unimpl84 : Statement .unimpl84 := of_op _ rfl rfl
theorem unimpl85 : Statement .unimpl85 := of_op _ rfl rfl
theorem unimpl86 : Statement .unimpl86 := of_op _ rfl rfl
theorem unimpl87 : Statement .unimpl87 := of_op _ rfl rfl
theorem unimpl88 : Statement .unimpl88 := of_op _ rfl rfl
theorem unimpl89 : Statement .unimpl89 := of_op _ rfl rfl
theorem unimpl8A : Statement .unimpl8A := of_op _ rfl rfl
theorem unimpl8B : Statement .unimpl8B := of_op _ rfl rfl
theorem unimpl8C : Statement .unimpl8C := of_op _ rfl rfl
theorem unimpl8D : Statement .unimpl8D := of_op _ rfl rfl
theorem unimpl8E : Statement .unimpl8E := of_op _ rfl rfl
theorem unimpl8F : Statement .unimpl8F := of_op _ rfl rfl
theorem unimpl90 : Statement .unimpl90 := of_op _ rfl rfl
theorem unimpl91 : Statement .unimpl91 := of_op _ rfl rfl
theorem unimpl92 : Statement .unimpl92 := of_op _ rfl rfl
theorem unimpl93 : Statement .unimpl93 := of_op _ rfl rfl
theorem unimpl94 : Statement .unimpl94 := of_op _ rfl rfl
theorem unimpl95 : Statement .unimpl95 := of_op _ rfl rfl
theorem unimpl96 : Statement .unimpl96 := of_op _ rfl rfl
theorem unimpl97 : Statement .unimpl97 := of_op _ rfl rfl
theorem unimpl98 : Statement .unimpl98 := of_op _ rfl rfl
theorem unimpl99 : Statement .unimpl99 := of_op _ rfl rfl
theorem unimpl9A : Statement .unimpl9A := of_op _ rfl rfl
theorem unimpl9B : Statement .unimpl9B := of_op _ rfl rfl
theorem unimpl9C : Statement .unimpl9C := of_op _ rfl rfl
theorem unimpl9D : Statement .unimpl9D := of_op _ rfl rfl
theorem unimpl9E : Statement .unimpl9E := of_op _ rfl rfl
theorem unimpl9F : Statement .unimpl9F := of_op _ rfl rfl
theorem unimplA0 : Statement .unimplA0 := of_op _ rfl rfl
theorem unimplA1 : Statement .unimplA1 := of_op _ rfl rfl
theorem unimplA2 : Statement .unimplA2 := of_op _ rfl rfl
theorem unimplA3 : Statement .unimplA3 := of_op _ rfl rfl
theorem unimplA4 : Statement .unimplA4 := of_op _ rfl rfl
theorem unimplA5 : Statement .unimplA5 := of_op _ rfl rfl
theorem unimplA6 : Statement .unimplA6 := of_op _ rfl rfl
theorem unimplA7 : Statement .unimplA7 := of_op _ rfl rfl
theorem unimplA8 : Statement .unimplA8 := of_op _ rfl rfl
theorem unimplA9 : Statement .unimplA9 := of_op _ rfl rfl
theorem unimplAA : Statement .unimplAA := of_op _ rfl rfl
theorem unimplAB : Statement .unimplAB := of_op _ rfl rfl
theorem unimplAC : Statement .unimplAC := of_op _ rfl rfl
theorem unimplAD : Statement .unimplAD := of_op _ rfl rfl
theorem unimplAE : Statement .unimplAE := of_op _ rfl rfl
theorem xorA : Statement .xorA := of_op _ rfl rfl
theorem unimplB0 : Statement .unimplB0 := of_op _ rfl rfl
theorem unimplB1 : Statement .unimplB1 := of_op _ rfl rfl
theorem unimplB2 : Statement .unimplB2 := of_op _ rfl rfl
theorem unimplB3 : Statement .unimplB3 := of_op _ rfl rfl
theorem unimplB4 : Statement .unimplB4 := of_op _ rfl rfl
theorem unimplB5 : Statement .unimplB5 := of_op _ rfl rfl
theorem unimplB6 : Statement .unimplB6 := of_op _ rfl rfl
theorem unimplB7 : Statement .unimplB7 := of_op _ rfl rfl
theorem unimplB8 : Statement .unimplB8 := of_op _ rfl rfl
theorem unimplB9 : Statement .unimplB9 := of_op _ rfl rfl
theorem unimplBA : Statement .unimplBA := of_op _ rfl rfl
theorem unimplBB : Statement .unimplBB := of_op _ rfl rfl
theorem unimplBC : Statement .unimplBC := of_op _ rfl rfl
theorem unimplBD : Statement .unimplBD := of_op _ rfl rfl
theorem unimplBE : Statement .unimplBE := of_op _ rfl rfl
theorem unimplBF : Statement .unimplBF := of_op _ rfl rfl
theorem unimplC0 : Statement .unimplC0 := of_op _ rfl rfl
theorem unimplC1 : Statement .unimplC1 := of_op _ rfl rfl
theorem unimplC2 : Statement .unimplC2 := of_op _ rfl rfl
theorem unimplC3 : Statement .unimplC3 := of_op _ rfl rfl
theorem unimplC4 : Statement .unimplC4 := of_op _ rfl rfl
theorem unimplC5 : Statement .unimplC5 := of_op _ rfl rfl
theorem unimplC6 : Statement .unimplC6 := of_op _ rfl rfl
theorem unimplC7 : Statement .unimplC7 := of_op _ rfl rfl
theorem unimplC8 : Statement .unimplC8 := of_op _ rfl rfl
theorem unimplC9 : Statement .unimplC9 := of_op _ rfl rfl
theorem unimplCA : Statement .unimplCA := of_op _ rfl rfl
theorem cbXx (ext : Sys2Proof.Byte) : Statement (.cbXx ext) := ⟨⟨_, rfl, rfl⟩, rfl⟩
theorem unimplCC : Statement .unimplCC := of_op _ rfl rfl
theorem unimplCD : Statement .unimplCD := of_op _ rfl rfl
theorem unimplCE : Statement .unimplCE := of_op _ rfl rfl
theorem unimplCF : Statement .unimplCF := of_op _ rfl rfl
theorem unimplD0 : Statement .unimplD0 := of_op _ rfl rfl
theorem unimplD1 : Statement .unimplD1 := of_op _ rfl rfl
theorem unimplD2 : Statement .unimplD2 := of_op _ rfl rfl
theorem unimplD3 : Statement .unimplD3 := of_op _ rfl rfl
theorem unimplD4 : Statement .unimplD4 := of_op _ rfl rfl
theorem unimplD5 : Statement .unimplD5 := of_op _ rfl rfl
theorem unimplD6 : Statement .unimplD6 := of_op _ rfl rfl
theorem unimplD7 : Statement .unimplD7 := of_op _ rfl rfl
theorem unimplD8 : Statement .unimplD8 := of_op _ rfl rfl
theorem unimplD9 : Statement .unimplD9 := of_op _ rfl rfl
theorem unimplDA : Statement .unimplDA := of_op _ rfl rfl
theorem unimplDB : Statement .unimplDB := of_op _ rfl rfl
theorem unimplDC : Statement .unimplDC := of_op _ rfl rfl
theorem unimplDD : Statement .unimplDD := of_op _ rfl rfl
theorem unimplDE : Statement .unimplDE := of_op _ rfl rfl
theorem unimplDF : Statement .unimplDF := of_op _ rfl rfl
theorem unimplE0 : Statement .unimplE0 := of_op _ rfl rfl
theorem unimplE1 : Statement .unimplE1 := of_op _ rfl rfl
theorem unimplE2 : Statement .unimplE2 := of_op _ rfl rfl
theorem unimplE3 : Statement .unimplE3 := of_op _ rfl rfl
theorem unimplE4 : Statement .unimplE4 := of_op _ rfl rfl
theorem unimplE5 : Statement .unimplE5 := of_op _ rfl rfl
theorem unimplE6 : Statement .unimplE6 := of_op _ rfl rfl
theorem unimplE7 : Statement .unimplE7 := of_op _ rfl rfl
theorem unimplE8 : Statement .unimplE8 := of_op _ rfl rfl
theorem unimplE9 : Statement .unimplE9 := of_op _ rfl rfl
theorem unimplEA : Statement .unimplEA := of_op _ rfl rfl
theorem unimplEB : Statement .unimplEB := of_op _ rfl rfl
theorem unimplEC : Statement .unimplEC := of_op _ rfl rfl
theorem unimplED : Statement .unimplED := of_op _ rfl rfl
theorem unimplEE : Statement .unimplEE := of_op _ rfl rfl
theorem unimplEF : Statement .unimplEF := of_op _ rfl rfl
theorem unimplF0 : Statement .unimplF0 := of_op _ rfl rfl
theorem unimplF1 : Statement .unimplF1 := of_op _ rfl rfl
theorem unimplF2 : Statement .unimplF2 := of_op _ rfl rfl
theorem unimplF3 : Statement .unimplF3 := of_op _ rfl rfl
theorem unimplF4 : Statement .unimplF4 := of_op _ rfl rfl
theorem unimplF5 : Statement .unimplF5 := of_op _ rfl rfl
theorem unimplF6 : Statement .unimplF6 := of_op _ rfl rfl
theorem unimplF7 : Statement .unimplF7 := of_op _ rfl rfl
theorem unimplF8 : Statement .unimplF8 := of_op _ rfl rfl
theorem unimplF9 : Statement .unimplF9 := of_op _ rfl rfl
theorem unimplFA : Statement .unimplFA := of_op _ rfl rfl
theorem unimplFB : Statement .unimplFB := of_op _ rfl rfl
theorem unimplFC : Statement .unimplFC := of_op _ rfl rfl
theorem unimplFD : Statement .unimplFD := of_op _ rfl rfl
theorem unimplFE : Statement .unimplFE := of_op _ rfl rfl
theorem unimplFF : Statement .unimplFF := of_op _ rfl rfl

end Sys2Proof.Laws.EncodeShape
end

