-- ==== Sys2Proof/Tests/Slice0.lean ====
section
/-! SUPPORT. The model's own tests. Expected values come from spec/: the bits of spec/opcode_table.json, the examples and
vectors of 95_test_vectors.md (named in each test), or a hand calculation from the rule named. Then one witness for the
hypotheses of each statement of Certificates/Slice0/Obligations.lean. -/

namespace Sys2Proof.Machine.Tests

/-! ## Helpers -/

/-- Reset with an image loaded at 0x0000. -/
def loaded (image : List Byte) : State := loadImage image State.reset

/-- The state after one step, or the state itself if the step stops. -/
def after (s : State) : State :=
  match step s with
  | .next t => t
  | .fault _ => s
  | .refused _ => s

theorem step_eq_after (s : State) : step s = .next (after s) := by
  obtain ⟨t, h⟩ := step_next s
  simp only [after, h]

/-- What one byte list decodes to, if anything. -/
def decoded (bs : List Byte) : Option (Instr × Nat) :=
  match decode bs with
  | .ok (i, rest) => some (i, rest.length)
  | .error _ => none

/-! ## Decoding: every row of spec/opcode_table.json, its bits written out, sixteen opcodes a test -/

theorem test_decode_row_0 :
    List.map decoded
      [[0b00000000], [0b00000001], [0b00000010], [0b00000011],
       [0b00000100], [0b00000101], [0b00000110], [0b00000111],
       [0b00001000], [0b00001001], [0b00001010], [0b00001011],
       [0b00001100], [0b00001101], [0b00001110], [0b00001111]] =
      [some (.unimpl00, 0), some (.unimpl01, 0), some (.unimpl02, 0), some (.unimpl03, 0),
       some (.unimpl04, 0), some (.unimpl05, 0), some (.unimpl06, 0), some (.unimpl07, 0),
       some (.unimpl08, 0), some (.unimpl09, 0), some (.unimpl0A, 0), some (.unimpl0B, 0),
       some (.unimpl0C, 0), some (.unimpl0D, 0), some (.unimpl0E, 0), some (.unimpl0F, 0)] := by
  decide

theorem test_decode_row_1 :
    List.map decoded
      [[0b00010000], [0b00010001], [0b00010010], [0b00010011],
       [0b00010100], [0b00010101], [0b00010110], [0b00010111],
       [0b00011000], [0b00011001], [0b00011010], [0b00011011],
       [0b00011100], [0b00011101], [0b00011110], [0b00011111]] =
      [some (.unimpl10, 0), some (.unimpl11, 0), some (.unimpl12, 0), some (.unimpl13, 0),
       some (.unimpl14, 0), some (.unimpl15, 0), some (.unimpl16, 0), some (.unimpl17, 0),
       some (.unimpl18, 0), some (.unimpl19, 0), some (.unimpl1A, 0), some (.unimpl1B, 0),
       some (.unimpl1C, 0), some (.unimpl1D, 0), some (.unimpl1E, 0), some (.unimpl1F, 0)] := by
  decide

theorem test_decode_row_2 :
    List.map decoded
      [[0b00100000], [0b00100001, 0b00110100, 0b00010010], [0b00100010], [0b00100011],
       [0b00100100], [0b00100101], [0b00100110], [0b00100111],
       [0b00101000], [0b00101001], [0b00101010], [0b00101011],
       [0b00101100], [0b00101101], [0b00101110], [0b00101111]] =
      [some (.unimpl20, 0), some (.ldHlD16 0x1234, 0), some (.unimpl22, 0), some (.unimpl23, 0),
       some (.unimpl24, 0), some (.unimpl25, 0), some (.unimpl26, 0), some (.unimpl27, 0),
       some (.unimpl28, 0), some (.unimpl29, 0), some (.unimpl2A, 0), some (.unimpl2B, 0),
       some (.unimpl2C, 0), some (.unimpl2D, 0), some (.unimpl2E, 0), some (.unimpl2F, 0)] := by
  decide

theorem test_decode_row_3 :
    List.map decoded
      [[0b00110000], [0b00110001, 0b00110100, 0b00010010], [0b00110010], [0b00110011],
       [0b00110100], [0b00110101], [0b00110110], [0b00110111],
       [0b00111000], [0b00111001], [0b00111010], [0b00111011],
       [0b00111100], [0b00111101], [0b00111110], [0b00111111]] =
      [some (.unimpl30, 0), some (.ldSpD16 0x1234, 0), some (.ldHldA, 0), some (.unimpl33, 0),
       some (.unimpl34, 0), some (.unimpl35, 0), some (.unimpl36, 0), some (.unimpl37, 0),
       some (.unimpl38, 0), some (.unimpl39, 0), some (.unimpl3A, 0), some (.unimpl3B, 0),
       some (.unimpl3C, 0), some (.unimpl3D, 0), some (.unimpl3E, 0), some (.unimpl3F, 0)] := by
  decide

theorem test_decode_row_4 :
    List.map decoded
      [[0b01000000], [0b01000001], [0b01000010], [0b01000011],
       [0b01000100], [0b01000101], [0b01000110], [0b01000111],
       [0b01001000], [0b01001001], [0b01001010], [0b01001011],
       [0b01001100], [0b01001101], [0b01001110], [0b01001111]] =
      [some (.unimpl40, 0), some (.unimpl41, 0), some (.unimpl42, 0), some (.unimpl43, 0),
       some (.unimpl44, 0), some (.unimpl45, 0), some (.unimpl46, 0), some (.unimpl47, 0),
       some (.unimpl48, 0), some (.unimpl49, 0), some (.unimpl4A, 0), some (.unimpl4B, 0),
       some (.unimpl4C, 0), some (.unimpl4D, 0), some (.unimpl4E, 0), some (.unimpl4F, 0)] := by
  decide

theorem test_decode_row_5 :
    List.map decoded
      [[0b01010000], [0b01010001], [0b01010010], [0b01010011],
       [0b01010100], [0b01010101], [0b01010110], [0b01010111],
       [0b01011000], [0b01011001], [0b01011010], [0b01011011],
       [0b01011100], [0b01011101], [0b01011110], [0b01011111]] =
      [some (.unimpl50, 0), some (.unimpl51, 0), some (.unimpl52, 0), some (.unimpl53, 0),
       some (.unimpl54, 0), some (.unimpl55, 0), some (.unimpl56, 0), some (.unimpl57, 0),
       some (.unimpl58, 0), some (.unimpl59, 0), some (.unimpl5A, 0), some (.unimpl5B, 0),
       some (.unimpl5C, 0), some (.unimpl5D, 0), some (.unimpl5E, 0), some (.unimpl5F, 0)] := by
  decide

theorem test_decode_row_6 :
    List.map decoded
      [[0b01100000], [0b01100001], [0b01100010], [0b01100011],
       [0b01100100], [0b01100101], [0b01100110], [0b01100111],
       [0b01101000], [0b01101001], [0b01101010], [0b01101011],
       [0b01101100], [0b01101101], [0b01101110], [0b01101111]] =
      [some (.unimpl60, 0), some (.unimpl61, 0), some (.unimpl62, 0), some (.unimpl63, 0),
       some (.unimpl64, 0), some (.unimpl65, 0), some (.unimpl66, 0), some (.unimpl67, 0),
       some (.unimpl68, 0), some (.unimpl69, 0), some (.unimpl6A, 0), some (.unimpl6B, 0),
       some (.unimpl6C, 0), some (.unimpl6D, 0), some (.unimpl6E, 0), some (.unimpl6F, 0)] := by
  decide

theorem test_decode_row_7 :
    List.map decoded
      [[0b01110000], [0b01110001], [0b01110010], [0b01110011],
       [0b01110100], [0b01110101], [0b01110110], [0b01110111],
       [0b01111000], [0b01111001], [0b01111010], [0b01111011],
       [0b01111100], [0b01111101], [0b01111110], [0b01111111]] =
      [some (.unimpl70, 0), some (.unimpl71, 0), some (.unimpl72, 0), some (.unimpl73, 0),
       some (.unimpl74, 0), some (.unimpl75, 0), some (.unimpl76, 0), some (.unimpl77, 0),
       some (.unimpl78, 0), some (.unimpl79, 0), some (.unimpl7A, 0), some (.unimpl7B, 0),
       some (.unimpl7C, 0), some (.unimpl7D, 0), some (.unimpl7E, 0), some (.unimpl7F, 0)] := by
  decide

theorem test_decode_row_8 :
    List.map decoded
      [[0b10000000], [0b10000001], [0b10000010], [0b10000011],
       [0b10000100], [0b10000101], [0b10000110], [0b10000111],
       [0b10001000], [0b10001001], [0b10001010], [0b10001011],
       [0b10001100], [0b10001101], [0b10001110], [0b10001111]] =
      [some (.unimpl80, 0), some (.unimpl81, 0), some (.unimpl82, 0), some (.unimpl83, 0),
       some (.unimpl84, 0), some (.unimpl85, 0), some (.unimpl86, 0), some (.unimpl87, 0),
       some (.unimpl88, 0), some (.unimpl89, 0), some (.unimpl8A, 0), some (.unimpl8B, 0),
       some (.unimpl8C, 0), some (.unimpl8D, 0), some (.unimpl8E, 0), some (.unimpl8F, 0)] := by
  decide

theorem test_decode_row_9 :
    List.map decoded
      [[0b10010000], [0b10010001], [0b10010010], [0b10010011],
       [0b10010100], [0b10010101], [0b10010110], [0b10010111],
       [0b10011000], [0b10011001], [0b10011010], [0b10011011],
       [0b10011100], [0b10011101], [0b10011110], [0b10011111]] =
      [some (.unimpl90, 0), some (.unimpl91, 0), some (.unimpl92, 0), some (.unimpl93, 0),
       some (.unimpl94, 0), some (.unimpl95, 0), some (.unimpl96, 0), some (.unimpl97, 0),
       some (.unimpl98, 0), some (.unimpl99, 0), some (.unimpl9A, 0), some (.unimpl9B, 0),
       some (.unimpl9C, 0), some (.unimpl9D, 0), some (.unimpl9E, 0), some (.unimpl9F, 0)] := by
  decide

theorem test_decode_row_A :
    List.map decoded
      [[0b10100000], [0b10100001], [0b10100010], [0b10100011],
       [0b10100100], [0b10100101], [0b10100110], [0b10100111],
       [0b10101000], [0b10101001], [0b10101010], [0b10101011],
       [0b10101100], [0b10101101], [0b10101110], [0b10101111]] =
      [some (.unimplA0, 0), some (.unimplA1, 0), some (.unimplA2, 0), some (.unimplA3, 0),
       some (.unimplA4, 0), some (.unimplA5, 0), some (.unimplA6, 0), some (.unimplA7, 0),
       some (.unimplA8, 0), some (.unimplA9, 0), some (.unimplAA, 0), some (.unimplAB, 0),
       some (.unimplAC, 0), some (.unimplAD, 0), some (.unimplAE, 0), some (.xorA, 0)] := by
  decide

theorem test_decode_row_B :
    List.map decoded
      [[0b10110000], [0b10110001], [0b10110010], [0b10110011],
       [0b10110100], [0b10110101], [0b10110110], [0b10110111],
       [0b10111000], [0b10111001], [0b10111010], [0b10111011],
       [0b10111100], [0b10111101], [0b10111110], [0b10111111]] =
      [some (.unimplB0, 0), some (.unimplB1, 0), some (.unimplB2, 0), some (.unimplB3, 0),
       some (.unimplB4, 0), some (.unimplB5, 0), some (.unimplB6, 0), some (.unimplB7, 0),
       some (.unimplB8, 0), some (.unimplB9, 0), some (.unimplBA, 0), some (.unimplBB, 0),
       some (.unimplBC, 0), some (.unimplBD, 0), some (.unimplBE, 0), some (.unimplBF, 0)] := by
  decide

theorem test_decode_row_C :
    List.map decoded
      [[0b11000000], [0b11000001], [0b11000010], [0b11000011],
       [0b11000100], [0b11000101], [0b11000110], [0b11000111],
       [0b11001000], [0b11001001], [0b11001010], [0b11001011, 0b10101111],
       [0b11001100], [0b11001101], [0b11001110], [0b11001111]] =
      [some (.unimplC0, 0), some (.unimplC1, 0), some (.unimplC2, 0), some (.unimplC3, 0),
       some (.unimplC4, 0), some (.unimplC5, 0), some (.unimplC6, 0), some (.unimplC7, 0),
       some (.unimplC8, 0), some (.unimplC9, 0), some (.unimplCA, 0), some (.cbXx 0xAF, 0),
       some (.unimplCC, 0), some (.unimplCD, 0), some (.unimplCE, 0), some (.unimplCF, 0)] := by
  decide

theorem test_decode_row_D :
    List.map decoded
      [[0b11010000], [0b11010001], [0b11010010], [0b11010011],
       [0b11010100], [0b11010101], [0b11010110], [0b11010111],
       [0b11011000], [0b11011001], [0b11011010], [0b11011011],
       [0b11011100], [0b11011101], [0b11011110], [0b11011111]] =
      [some (.unimplD0, 0), some (.unimplD1, 0), some (.unimplD2, 0), some (.unimplD3, 0),
       some (.unimplD4, 0), some (.unimplD5, 0), some (.unimplD6, 0), some (.unimplD7, 0),
       some (.unimplD8, 0), some (.unimplD9, 0), some (.unimplDA, 0), some (.unimplDB, 0),
       some (.unimplDC, 0), some (.unimplDD, 0), some (.unimplDE, 0), some (.unimplDF, 0)] := by
  decide

theorem test_decode_row_E :
    List.map decoded
      [[0b11100000], [0b11100001], [0b11100010], [0b11100011],
       [0b11100100], [0b11100101], [0b11100110], [0b11100111],
       [0b11101000], [0b11101001], [0b11101010], [0b11101011],
       [0b11101100], [0b11101101], [0b11101110], [0b11101111]] =
      [some (.unimplE0, 0), some (.unimplE1, 0), some (.unimplE2, 0), some (.unimplE3, 0),
       some (.unimplE4, 0), some (.unimplE5, 0), some (.unimplE6, 0), some (.unimplE7, 0),
       some (.unimplE8, 0), some (.unimplE9, 0), some (.unimplEA, 0), some (.unimplEB, 0),
       some (.unimplEC, 0), some (.unimplED, 0), some (.unimplEE, 0), some (.unimplEF, 0)] := by
  decide

theorem test_decode_row_F :
    List.map decoded
      [[0b11110000], [0b11110001], [0b11110010], [0b11110011],
       [0b11110100], [0b11110101], [0b11110110], [0b11110111],
       [0b11111000], [0b11111001], [0b11111010], [0b11111011],
       [0b11111100], [0b11111101], [0b11111110], [0b11111111]] =
      [some (.unimplF0, 0), some (.unimplF1, 0), some (.unimplF2, 0), some (.unimplF3, 0),
       some (.unimplF4, 0), some (.unimplF5, 0), some (.unimplF6, 0), some (.unimplF7, 0),
       some (.unimplF8, 0), some (.unimplF9, 0), some (.unimplFA, 0), some (.unimplFB, 0),
       some (.unimplFC, 0), some (.unimplFD, 0), some (.unimplFE, 0), some (.unimplFF, 0)] := by
  decide

/-- The operand bytes are read low byte first and the rest is left (30_encoding.md R58). -/
theorem test_decode_leaves_rest : decoded [0x31, 0xFE, 0xFF, 0xAF, 0x21] = some (.ldSpD16 0xFFFE, 2) := by decide

/-- A second byte equal to a base opcode is not dispatched (30_encoding.md R61, `CB CB`). -/
theorem test_decode_cb_cb : decoded [0xCB, 0xCB, 0x00] = some (.cbXx 0xCB, 1) := by decide

theorem test_decodeTableWord_ldSp : decodeTableWord 24 0x123431 = some (.ldSpD16 0x1234) := by decide

/-- A table word with no bits for its operand: the operand bytes are 0. -/
theorem test_decodeTableWord_short : decodeTableWord 8 0xFFFF21 = some (.ldHlD16 0) := by decide

/-! ## Well-formedness: an ill-formed list for each check -/

theorem test_oneInstruction_refuses_no_bytes : oneInstruction [] = false := by decide
theorem test_oneInstruction_refuses_too_few : oneInstruction [0x31, 0x00] = false := by decide
theorem test_oneInstruction_refuses_too_many : oneInstruction [0x32, 0x00] = false := by decide
theorem test_oneInstruction_accepts : oneInstruction [0xCB, 0x00] = true := by decide

/-! ## Memory (95_test_vectors.md 2.1) -/

/-- The boundary table: both sides of every edge, as (base of the range + offset). -/
theorem test_decodeAddress_edges :
    List.map decodeAddress [0x3FFF, 0x4000, 0x7FFF, 0x8000, 0x9FFF, 0xA000, 0xBFFF, 0xC000, 0xDFFF, 0xE000, 0xFDFF,
      0xFE00, 0xFE9F, 0xFEA0, 0xFEFF, 0xFF00, 0xFF7F, 0xFF80, 0xFFFE, 0xFFFF] =
      [some (.rom0, 0x3FFF), some (.romx, 0), some (.romx, 0x3FFF), some (.vram, 0), some (.vram, 0x1FFF),
       some (.eram, 0), some (.eram, 0x1FFF), some (.wram, 0), some (.wram, 0x1FFF), none, none,
       some (.oam, 0), some (.oam, 0x9F), none, none, some (.io, 0), some (.io, 0x7F), some (.hram, 0),
       some (.hram, 0x7E), some (.iereg, 0)] := by decide

/-- M2: no echo mirror of work RAM. -/
theorem test_no_echo : read (write [] 0xC000 0xAB) 0xE000 = 0 := by decide
/-- M4: ROM keeps what the loader put there. -/
theorem test_rom_keeps : read (write (loadRom [] 0x0100 0x42) 0x0100 0x99) 0x0100 = 0x42 := by decide
/-- M5: `loadRom` outside ROM is ignored. -/
theorem test_loadRom_outside : loadRom [] 0x8000 0x42 = [] := by decide
/-- Writing 0 takes the entry out: the canonical form (10_state.md R25). -/
theorem test_write_zero_removes : write (write [] 0xC000 0xAB) 0xC000 0 = [] := by decide
/-- Two orders of writing give the same list (20_memory.md R39). -/
theorem test_write_order : write (write [] 0xFF80 1) 0xC000 2 = write (write [] 0xC000 2) 0xFF80 1 := by decide

/-! ## Pairs and flags (95_test_vectors.md 2.2, S5) -/

/-- P-2. -/
theorem test_writePair_de :
    (writePair .de 0xBEEF State.reset).d = 0xBE ∧ (writePair .de 0xBEEF State.reset).e = 0xEF := by decide
/-- P-1. -/
theorem test_readPair_bc : readPair .bc (writeByteRegister .b 0x12 (writeByteRegister .c 0x34 State.reset)) = 0x1234 := by
  decide
/-- S5: a false argument clears its bit; the low nibble is kept. -/
theorem test_setFlags : flagByte 0x70 true false false false = 0x80 ∧ flagByte 0x0F true false false false = 0x8F ∧
    flagByte 0x00 false true false true = 0x50 ∧ flagByte 0xFF false false true false = 0x2F := by decide

/-! ## The instructions, one step each (95_test_vectors.md 2.3 to 2.7) -/

/-- S6, I1. -/
theorem test_ldSp : (after (loaded [0x31, 0x00, 0xFF])).sp = 0xFF00 ∧ (after (loaded [0x31, 0x00, 0xFF])).pc = 3 ∧
    (after (loaded [0x31, 0x00, 0xFF])).ir = 0x31 := by decide

/-- X2: opcode in the cell at 0xFFFF, operands at 0x0000 and 0x0001. -/
theorem test_ldSp_wraps :
    let s := (writeWordRegister .pc 0xFFFF (loaded [0x34, 0x12])).store 0xFFFF 0x31
    (after s).sp = 0x1234 ∧ (after s).pc = 2 := by decide

/-- I4, I6: the low byte lands in `l`; flags kept. -/
theorem test_ldHl :
    let s := writeByteRegister .f 0xF0 (loaded [0x21, 0xFF, 0x9F])
    (after s).h = 0x9F ∧ (after s).l = 0xFF ∧ (after s).f = 0xF0 ∧ (after s).pc = 3 := by decide

/-- X5: an instruction that straddles ROM and video RAM. -/
theorem test_ldHl_straddles :
    let s := ((writeWordRegister .pc 0x7FFF { State.reset with mem := loadRom [] 0x7FFF 0x21 }).store 0x8000 0xCD).store
      0x8001 0xAB
    (after s).h = 0xAB ∧ (after s).l = 0xCD ∧ (after s).pc = 0x8002 := by decide

/-- A3: N, H, C cleared. -/
theorem test_xorA :
    let s := writeByteRegister .f 0x70 (writeByteRegister .a 0x5A (loaded [0xAF]))
    (after s).a = 0 ∧ (after s).f = 0x80 ∧ (after s).pc = 1 ∧ (after s).ir = 0xAF := by decide

/-- A5: the low nibble is kept. -/
theorem test_xorA_low_nibble : (after (writeByteRegister .f 0x0F (loaded [0xAF]))).f = 0x8F := by decide

/-- H2: the decrement borrows into `h`. -/
theorem test_ldHldA :
    let s := writePair .hl 0x9F00 (writeByteRegister .a 0x5A (loaded [0x32]))
    read (after s).mem 0x9F00 = 0x5A ∧ (after s).h = 0x9E ∧ (after s).l = 0xFF ∧ (after s).a = 0x5A := by decide

/-- H3, H5: a store to ROM is discarded and `hl` wraps; a store to 0xFFFF leaves `ie`. -/
theorem test_ldHldA_edges :
    let s := writeByteRegister .a 0x5A (loaded [0x32])
    let u := writePair .hl 0xFFFF s
    read (after s).mem 0 = 0x32 ∧ readPair .hl (after s) = 0xFFFF ∧
      read (after u).mem 0xFFFF = 0x5A ∧ (after u).ie = 0 ∧ readPair .hl (after u) = 0xFFFE := by decide

/-- V2: `CB AF` is not `XOR A`. -/
theorem test_cb_af :
    let s := writeByteRegister .f 0x10 (writeByteRegister .a 0x77 (loaded [0xCB, 0xAF]))
    (after s).a = 0x77 ∧ (after s).f = 0x10 ∧ (after s).pc = 2 ∧ (after s).ir = 0xAF ∧
      (after s).raised = some ⟨true, 0xAF, 0⟩ := by decide

/-- V6: the prefix at 0xFFFF, its continuation byte at 0x0000. -/
theorem test_cb_wraps :
    let s := (writeWordRegister .pc 0xFFFF (loaded [0xAF])).store 0xFFFF 0xCB
    (after s).pc = 1 ∧ (after s).ir = 0xAF ∧ (after s).raised = some ⟨true, 0xAF, 0xFFFF⟩ := by decide

/-- V8: one byte only. -/
theorem test_unimplemented_3E :
    (after (loaded [0x3E, 0x31])).pc = 1 ∧ (after (loaded [0x3E, 0x31])).ir = 0x3E ∧
      (after (loaded [0x3E, 0x31])).raised = some ⟨false, 0x3E, 0⟩ := by decide

/-- X3: a fetch from unmapped space reads 0. -/
theorem test_unmapped_fetch :
    let s := writeWordRegister .pc 0xE000 State.reset
    (after s).pc = 0xE001 ∧ (after s).ir = 0 ∧ (after s).raised = some ⟨false, 0, 0xE000⟩ := by decide

/-! ## The driver (95_test_vectors.md 2.8) -/

/-- R-4 and R-1. -/
theorem test_run_ends :
    (∃ rep, run true 1 (loaded []) = .next rep ∧ rep.result = .stopped 1 ⟨false, 0, 0⟩ ∧
      rep.console = [⟨none, 1, 0, 0⟩]) ∧
    (∃ rep, run false 0 (loaded [0x31]) = .next rep ∧ rep.result = .completed 0 ∧ rep.final = loaded [0x31]) :=
  ⟨⟨_, rfl, rfl, rfl⟩, ⟨_, rfl, rfl, rfl⟩⟩

/-- The strict step faults where the step reports (44_prefix_and_unimplemented.md R97). -/
theorem test_stepStrict : stepStrict (loaded [0x76]) = .fault (.unimplementedOpcode ⟨false, 0x76, 0⟩) := rfl

/-! ## Witnesses: the hypotheses of the statements can be met -/

theorem witness_DecodeOfEncodeIsIdentity : (Instr.ldSpD16 0xFFFF).wellFormed = true ∧ Instr.unimplFF.wellFormed = true := by
  decide

theorem witness_EncodeOfDecodeIsIdentity :
    decode [0x21, 0x34, 0x12, 0xAF] = .ok (.ldHlD16 0x1234, [0xAF]) ∧ decode [0xCB, 0xFF] = .ok (.cbXx 0xFF, []) ∧
      decode [0x00] = .ok (.unimpl00, []) := ⟨rfl, rfl, rfl⟩

/-- One state for each of the two clauses on the fetch phase. -/
theorem witness_StepRunsDecodedInstruction :
    (decode (instructionBytes (loaded [0x32])) = .ok (.ldHldA, [0, 0]) ∧ Instr.ldHldA.wellFormed = true ∧
      read (loaded [0x32]).mem (loaded [0x32]).pc ≠ 0xCB) ∧
    (decode (instructionBytes (loaded [0xCB, 0x31])) = .ok (.cbXx 0x31, [0]) ∧ (Instr.cbXx 0x31).wellFormed = true ∧
      read (loaded [0xCB, 0x31]).mem (loaded [0xCB, 0x31]).pc = 0xCB) :=
  ⟨⟨rfl, rfl, by decide⟩, ⟨rfl, rfl, rfl⟩⟩

/-- Steps at each of the six kinds of opcode: the statements whose hypothesis is `step s = .next t` (pc, `ir`, registers
never written, low flag bits, ROM, trace lines, the record of the exception). -/
theorem witness_steps :
    step (loaded [0x31]) = .next (after (loaded [0x31])) ∧ step (loaded [0x21]) = .next (after (loaded [0x21])) ∧
    step (loaded [0xAF]) = .next (after (loaded [0xAF])) ∧ step (loaded [0x32]) = .next (after (loaded [0x32])) ∧
    step (loaded [0xCB]) = .next (after (loaded [0xCB])) ∧ step (loaded [0xFF]) = .next (after (loaded [0xFF])) :=
  ⟨step_eq_after _, step_eq_after _, step_eq_after _, step_eq_after _, step_eq_after _, step_eq_after _⟩

theorem witness_UnimplementedBodiesReport :
    Instr.unimpl00.opcode ∉ ([0x21, 0x31, 0x32, 0xAF, 0xCB] : List Byte) ∧
    Instr.unimplAE.opcode ∉ ([0x21, 0x31, 0x32, 0xAF, 0xCB] : List Byte) ∧
    Instr.unimplFF.opcode ∉ ([0x21, 0x31, 0x32, 0xAF, 0xCB] : List Byte) := by decide

/-- The byte at `pc` is each of the five, and none of them. -/
theorem witness_StepRules :
    read (loaded [0x31]).mem (loaded [0x31]).pc = 0x31 ∧ read (loaded [0x21]).mem (loaded [0x21]).pc = 0x21 ∧
    read (loaded [0xAF]).mem (loaded [0xAF]).pc = 0xAF ∧ read (loaded [0x32]).mem (loaded [0x32]).pc = 0x32 ∧
    read (loaded [0xCB]).mem (loaded [0xCB]).pc = 0xCB ∧
    read (loaded []).mem (loaded []).pc ∉ ([0x21, 0x31, 0x32, 0xAF, 0xCB] : List Byte) := by decide

/-- An instruction that meets each guard of the frame, and one that does not. -/
theorem witness_NonStoringInstructionsFrame :
    (∃ t, exec .xorA (loaded []) = .next t) ∧ Instr.xorA ≠ .ldHldA ∧ Instr.xorA.opcode ≠ 0x31 ∧
    Instr.xorA.opcode ≠ 0x21 ∧ (∃ t, exec (.ldSpD16 0xFFFF) (loaded []) = .next t) ∧
    (Instr.ldSpD16 0xFFFF) ≠ .ldHldA ∧ (Instr.ldSpD16 0xFFFF).opcode ≠ 0xAF :=
  ⟨⟨_, rfl⟩, by decide, by decide, by decide, ⟨_, rfl⟩, by decide, by decide⟩

/-- The store at the bottom of the address space, and an address outside the byte stored. -/
theorem witness_StoreInstructionFrame :
    (∃ t, exec .ldHldA (loaded []) = .next t) ∧ storeAddress (loaded []) = 0 ∧ (0xFFFF : Word) ≠ 0 :=
  ⟨⟨_, rfl⟩, by decide, by decide⟩

theorem witness_OnlyXorAWritesF_OnlyLdSpWritesSp :
    step (loaded [0x32]) = .next (after (loaded [0x32])) ∧
    read (loaded [0x32]).mem (loaded [0x32]).pc ≠ 0xAF ∧ read (loaded [0x32]).mem (loaded [0x32]).pc ≠ 0x31 :=
  ⟨step_eq_after _, by decide, by decide⟩

/-- Two states that agree on what a step reads and differ in `f`, `sp` and `b`. -/
theorem witness_StepReadsOnlyPcAHlMemory :
    let s := loaded [0xAF]
    let s' := writeByteRegister .b 9 (writeWordRegister .sp 7 (writeByteRegister .f 0xFF s))
    s.pc = s'.pc ∧ s.a = s'.a ∧ s.h = s'.h ∧ s.l = s'.l ∧ s.mem = s'.mem ∧
      step s = .next (after s) ∧ step s' = .next (after s') ∧ s ≠ s' :=
  ⟨rfl, rfl, rfl, rfl, rfl, step_eq_after _, step_eq_after _, by decide⟩

theorem witness_NoStepChangesRom :
    step (loaded [0x32]) = .next (after (loaded [0x32])) ∧ (0x7FFF : Word).toNat ≤ 0x7FFF := ⟨step_eq_after _, by decide⟩

/-- `32` at 0xC000 with `hl = 0xC001` and `a = 0x31`: the store makes the next opcode. -/
def selfModifying : State :=
  (writePair .hl 0xC001 (writeByteRegister .a 0x31 (writeWordRegister .pc 0xC000 State.reset))).store 0xC000 0x32

theorem witness_StoreIsSeenByNextFetch :
    read selfModifying.mem selfModifying.pc = 0x32 ∧ storeAddress selfModifying = selfModifying.pc + 1 ∧
    writable (selfModifying.pc + 1) = true ∧ selfModifying.a ≠ 0xCB ∧
    step selfModifying = .next (after selfModifying) ∧
    step (after selfModifying) = .next (after (after selfModifying)) :=
  ⟨by decide, by decide, by decide, by decide, step_eq_after _, step_eq_after _⟩

theorem witness_StepKeepsMemoryCanonical :
    Memory.wf selfModifying.mem = true ∧ step selfModifying = .next (after selfModifying) :=
  ⟨by decide, step_eq_after _⟩

theorem witness_LaunchMemoryIsCanonical :
    ∃ s, launch (some [0x31, 0x00]) [.setByte .a 0x5A, .store 0x9FFF 0xEE, .store 0x0000 0xEE] = some s := ⟨_, rfl⟩

theorem witness_ReachableFromLoadedReset :
    ∃ t, Host.Core.run Sys2Proof.core 2 (loadImage [0xAF, 0x32] State.reset) = .next t := ⟨_, rfl⟩

/-- An image for each clause: none of the first byte, a plain first byte, the prefix alone, the prefix with a second byte. -/
theorem witness_FirstFetchIsAtZero :
    (launch (some []) [] = some (loaded []) ∧ step (loaded []) = .next (after (loaded [])) ∧
      List.getD ([] : List Byte) 0 0 ≠ 0xCB) ∧
    (launch (some [0x31]) [] = some (loaded [0x31]) ∧ List.getD ([0x31] : List Byte) 0 0 ≠ 0xCB) ∧
    (launch (some [0xCB]) [] = some (loaded [0xCB]) ∧ step (loaded [0xCB]) = .next (after (loaded [0xCB])) ∧
      List.getD ([0xCB] : List Byte) 0 0 = 0xCB ∧ List.getD ([0xCB] : List Byte) 1 0 = 0) ∧
    (launch (some [0xCB, 0x31]) [] = some (loaded [0xCB, 0x31]) ∧ List.getD ([0xCB, 0x31] : List Byte) 1 0 = 0x31) :=
  ⟨⟨rfl, step_eq_after _, by decide⟩, ⟨rfl, by decide⟩, ⟨rfl, step_eq_after _, by decide, by decide⟩,
    ⟨rfl, by decide⟩⟩

/-- An address for each clause at the ends of its ranges; the ranges do not meet. -/
theorem witness_memory_ranges :
    ((0x8000 : Word).toNat = 0x8000 ∧ (0xDFFF : Word).toNat = 0xDFFF ∧ (0xFE00 : Word).toNat = 0xFE00 ∧
      (0xFE9F : Word).toNat = 0xFE9F ∧ 0xFF00 ≤ (0xFFFF : Word).toNat) ∧
    ((0x7FFF : Word).toNat ≤ 0x7FFF ∧ 0x7FFF < (0x8000 : Word).toNat) ∧
    List.map mapped [0x7FFF, 0xDFFF, 0xE000, 0xFDFF, 0xFE9F, 0xFEA0, 0xFEFF, 0xFF00] =
      [true, true, false, false, true, false, false, true] ∧
    decodeAddress 0xE000 = none ∧ decodeAddress 0xFEFF = none ∧ (0x8001 : Word) ≠ 0x8000 := by decide

/-- An address at each end of each range of the store's clauses: ROM, the gaps, the read/write ranges; and another address. -/
theorem witness_DiagnosticWritesChangeWhatTheyName :
    ((0x0000 : Word).toNat ≤ 0x7FFF ∧ (0x7FFF : Word).toNat ≤ 0x7FFF) ∧
    (0xE000 ≤ (0xE000 : Word).toNat ∧ (0xFDFF : Word).toNat ≤ 0xFDFF ∧ 0xFEA0 ≤ (0xFEA0 : Word).toNat ∧
      (0xFEFF : Word).toNat ≤ 0xFEFF) ∧
    (0x8000 ≤ (0x8000 : Word).toNat ∧ (0xDFFF : Word).toNat ≤ 0xDFFF ∧ 0xFE00 ≤ (0xFE00 : Word).toNat ∧
      (0xFE9F : Word).toNat ≤ 0xFE9F ∧ 0xFF00 ≤ (0xFF00 : Word).toNat) ∧
    (0x7FFF : Word) ≠ 0x8000 := by decide

/-- A record of each of the two kinds is raised. -/
theorem witness_UnimplementedRaisedExactlyThere :
    step (loaded [0xFF]) = .next (after (loaded [0xFF])) ∧ (after (loaded [0xFF])).raised = some ⟨false, 0xFF, 0⟩ ∧
    step (loaded [0xCB, 0x07]) = .next (after (loaded [0xCB, 0x07])) ∧
    (after (loaded [0xCB, 0x07])).raised = some ⟨true, 0x07, 0⟩ :=
  ⟨step_eq_after _, by decide, step_eq_after _, by decide⟩

/-- Both clauses of the strict step. -/
theorem witness_StrictStepFaultsExactlyOnReport :
    (after (loaded [0xFF])).raised = some ⟨false, 0xFF, 0⟩ ∧ (after (loaded [0xAF])).raised = none := ⟨rfl, rfl⟩

theorem witness_CompletedRunIsNDefinedSteps :
    (∃ rep, run false 1 (loaded [0xAF]) = .next rep ∧ rep.result = .completed 1) ∧
    ∃ u, Host.Core.run Sys2Proof.core 1 (loaded [0xAF]) = .next u := ⟨⟨_, rfl, rfl⟩, ⟨_, rfl⟩⟩

/-- Stopped at step 2, after one step that did not raise. -/
theorem witness_StoppedRunStopsAtFirstReport :
    (∃ rep, run false 3 (loaded [0xAF]) = .next rep ∧ rep.result = .stopped 2 ⟨false, 0, 1⟩) ∧
    ∃ u, Host.Core.run Sys2Proof.core 1 (loaded [0xAF]) = .next u := ⟨⟨_, rfl, rfl⟩, ⟨_, rfl⟩⟩

/-- A state a safe run leaves, and a faulted one. -/
theorem witness_SafeRunIffNoStepFaults :
    SafeRun 1 (loaded [0xAF]) ∧ ¬ Faulted (after (loaded [0xAF])) ∧ Faulted (after (loaded [])) :=
  ⟨⟨_, rfl⟩, fun h => h (by decide),
    fun h => absurd (h.symm.trans (show (after (loaded [])).raised = some ⟨false, 0, 0⟩ by decide)) (by decide)⟩

/-- A run for each way to end. -/
theorem witness_TraceChangesNothing :
    (∃ x y, run true 1 (loaded [0xAF]) = .next x ∧ run false 1 (loaded [0xAF]) = .next y ∧ x.result = .completed 1) ∧
    ∃ x y, run true 2 (loaded [0xAF]) = .next x ∧ run false 2 (loaded [0xAF]) = .next y ∧
      x.result = .stopped 2 ⟨false, 0, 1⟩ := ⟨⟨_, _, rfl, rfl, rfl⟩, ⟨_, _, rfl, rfl, rfl⟩⟩

/-- The host's moves in order: load, a preset, a run. -/
theorem witness_NoSecondLoad_RomFixedOnceLoaded :
    ∃ x y z, hostMove (.load (some [0x32])) Session.powerOn = some x ∧ x.phase.ready = true ∧
      hostMove (.diagnostic (.store 0x0000 0xFF)) x = some y ∧ y.phase.ready = true ∧ hostMove (.run 1) y = some z :=
  ⟨_, _, _, rfl, rfl, rfl, rfl, rfl⟩

/-- The window has storage at `pc = 0xFFFF`, and has none at `pc = 0xDFFF`. -/
theorem witness_PlacedWordRunsNext :
    decodeTableWord 8 0xCB = some (.cbXx 0) ∧ fetchWindowMapped 0xFFFF = true ∧ fetchWindowMapped 0xDFFF = false := by
  decide

end Sys2Proof.Machine.Tests
end

/-! PROOFS. The state: the register pairs and the values after power-on (10_state.md). -/

namespace Sys2Proof.Machine

/-- Both branches of `read` give 0 on the empty list: a mapped address reads the unlisted byte, an unmapped one the
sentinel (10_state.md R25; 20_memory.md R32). -/
@[simp] theorem read_nil (addr : Word) : read [] addr = 0 := by
  rw [read_eq]
  split
  · exact cellAt_of_absent (by simp)
  · rfl

/-- The two halves a pair write leaves are put together again by the pair read (10_state.md R13, R14). -/
@[simp] theorem readPair_writePair_same (p : Pair) (v : Word) (s : State) : readPair p (writePair p v s) = v := by
  cases p <;> exact wordOfBytes_hiByte_loByte v

/-- Settles O37: the registers by the definition of `State.reset`, the addresses because its memory lists no cell. -/
theorem resetIsAllZero : Obligations.ResetIsAllZero :=
  ⟨rfl, rfl, rfl, rfl, rfl, rfl, rfl, rfl, rfl, rfl, rfl, rfl, read_nil⟩

/-- Settles O46: the views are the definitions of `readPair` and `writePair` at each pair; the round trip is
`readPair_writePair_same`. -/
theorem pairWriteThenRead : Obligations.PairWriteThenRead := fun v s =>
  ⟨rfl, rfl, rfl, fun p => readPair_writePair_same p v s, rfl, rfl, rfl⟩

end Sys2Proof.Machine

/-! PROOFS. The address space: the decode and the laws of `write` (20_memory.md R31 to R35). -/

namespace Sys2Proof.Machine

/-! ## The layout of the ranges -/

/-- Of two ranges one ends before the other begins: the table of R31 row against row. -/
theorem Region.eq_or_disjoint (r r' : Region) :
    r = r' ∨ r.base + r.size ≤ r'.base ∨ r'.base + r'.size ≤ r.base := by
  cases r <;> cases r' <;> decide

/-- Each range lies below both gaps, between them or above both (20_memory.md R31, R32). -/
theorem Region.outside_gaps (r : Region) :
    r.base + r.size ≤ 0xE000 ∨ (0xFE00 ≤ r.base ∧ r.base + r.size ≤ 0xFEA0) ∨ 0xFF00 ≤ r.base := by
  cases r <;> decide

/-- An address has at most one range and offset. -/
theorem Region.offset_unique {r r' : Region} {off off' : Nat} (hoff : off < r.size) (hoff' : off' < r'.size)
    (h : r.base + off = r'.base + off') : r = r' ∧ off = off' := by
  have hr : r = r' := (Region.eq_or_disjoint r r').resolve_right (by omega)
  subst hr
  exact ⟨rfl, Nat.add_left_cancel h⟩

/-! ## The decode, as two equivalences -/

theorem mapped_eq_false_iff (addr : Word) :
    mapped addr = false ↔
      (0xE000 ≤ addr.toNat ∧ addr.toNat ≤ 0xFDFF) ∨ (0xFEA0 ≤ addr.toNat ∧ addr.toNat ≤ 0xFEFF) := by
  rw [Bool.eq_false_iff, ne_eq, mapped_iff]
  omega

theorem decodeAddress_eq_none_iff (addr : Word) : decodeAddress addr = none ↔ mapped addr = false := by
  rw [mapped, Option.isSome_eq_false_iff, Option.isNone_iff_eq_none]

theorem decodeAddress_eq_some_iff (addr : Word) (r : Region) (off : Nat) :
    decodeAddress addr = some (r, off) ↔ off < r.size ∧ addr.toNat = r.base + off := by
  constructor
  · intro h
    obtain ⟨hbase, hoff, -⟩ := decodeAddress_spec h
    exact ⟨hoff, hbase.symm⟩
  · rintro ⟨hoff, haddr⟩
    obtain ⟨r', off', hdec, hbase', hoff', -⟩ | ⟨-, hgap⟩ := decodeAddress_cases addr
    · obtain ⟨rfl, rfl⟩ := Region.offset_unique hoff' hoff (hbase'.trans haddr)
      exact hdec
    · have hout := Region.outside_gaps r
      omega

/-! ## Where `write` stores nothing, and what an unmapped address reads as -/

theorem write_of_not_writable {addr : Word} (h : ¬ writable addr = true) (m : Memory) (v : Byte) :
    write m addr v = m := by
  rw [write_eq, if_neg h]

theorem write_of_unmapped {addr : Word} (h : mapped addr = false) (m : Memory) (v : Byte) : write m addr v = m :=
  write_of_not_writable (fun hw => Bool.eq_false_iff.mp h (mapped_of_writable hw)) m v

theorem read_of_unmapped {addr : Word} (h : mapped addr = false) (m : Memory) : read m addr = 0 := by
  rw [read_eq, if_neg (Bool.eq_false_iff.mp h)]
  rfl

/-! ## The statements -/

/-- Settles O41: an address in a range is in no other range and in no gap. -/
theorem addressDecodeIsTotalAndUnambiguous : Obligations.AddressDecodeIsTotalAndUnambiguous :=
  ⟨decodeAddress_eq_some_iff, fun addr => (decodeAddress_eq_none_iff addr).trans (mapped_eq_false_iff addr)⟩

/-- Settles O42: the first clause's ranges are the writable addresses, ROM and the gaps are not, and `read_write` says
what every address reads as afterwards. -/
theorem writeLaws : Obligations.WriteLaws := by
  intro m addr v
  refine ⟨fun h => ?_, fun h => ?_, fun h => ?_, fun b hb => ?_⟩
  · rw [read_write, if_pos ⟨rfl, (writable_iff addr).mpr h⟩]
  · refine write_of_not_writable (fun hw => ?_) m v
    rw [writable_iff] at hw
    omega
  · exact write_of_unmapped ((decodeAddress_eq_none_iff addr).mp h) m v
  · rw [read_write, if_neg (fun h => hb h.1)]

/-- Settles O44: the gaps are what `mapped_iff` leaves over, and no operation reaches a cell there. -/
theorem unmappedReadsZeroAndDiscardsWrites : Obligations.UnmappedReadsZeroAndDiscardsWrites := fun addr =>
  ⟨mapped_eq_false_iff addr, fun h m v => ⟨read_of_unmapped h m, write_of_unmapped h m v⟩⟩

end Sys2Proof.Machine

/-! PROOFS. The decoder by format: what the base opcode alone decides (30_encoding.md R57). -/

namespace Sys2Proof

/-! ## The format of a base opcode -/

theorem formatOf_eq_opD16 {op : Byte} (h : op = 0x21 ∨ op = 0x31) : formatOf op = .opD16 := if_pos h

theorem formatOf_eq_op {op : Byte} (h16 : ¬ (op = 0x21 ∨ op = 0x31)) (hcb : op ≠ 0xCB) : formatOf op = .op :=
  (if_neg h16).trans (if_neg hcb)

/-! ## Decoding in each format: an instruction of the base opcode, and the bytes left over -/

theorem decode_of_format_op {op : Byte} (hf : formatOf op = .op) (rest : List Byte) :
    ∃ i, decode (op :: rest) = .ok (i, rest) ∧ i.opcode = op := by
  obtain ⟨i, hrow, hop⟩ := rowOf_ok op 0 0
  exact ⟨i, by simp only [decode, hf, hrow, Except.map], hop⟩

theorem decode_of_format_opD16 {op : Byte} (hf : formatOf op = .opD16) (lo hi : Byte) (rest : List Byte) :
    ∃ i, decode (op :: lo :: hi :: rest) = .ok (i, rest) ∧ i.opcode = op := by
  obtain ⟨i, hrow, hop⟩ := rowOf_ok op (wordOfBytes hi lo) 0
  exact ⟨i, by simp only [decode, hf, hrow, Except.map], hop⟩

theorem decode_of_format_cbExt {op : Byte} (hf : formatOf op = .cbExt) (ext : Byte) (rest : List Byte) :
    ∃ i, decode (op :: ext :: rest) = .ok (i, rest) ∧ i.opcode = op := by
  obtain ⟨i, hrow, hop⟩ := rowOf_ok op 0 ext
  exact ⟨i, by simp only [decode, hf, hrow, Except.map], hop⟩

/-! ## The statement -/

/-- Settles O4: by the three formats, each of which the two bytes after the opcode are enough for. -/
theorem lengthToldByBaseOpcode : Obligations.LengthToldByBaseOpcode := by
  intro op b1 b2 more
  by_cases h16 : op = 0x21 ∨ op = 0x31
  · obtain ⟨i, hdec, hop⟩ := decode_of_format_opD16 (formatOf_eq_opD16 h16) b1 b2 more
    exact ⟨i, more, hdec, hop, by rw [if_pos h16]; rfl⟩
  · by_cases hcb : op = 0xCB
    · subst hcb
      obtain ⟨i, hdec, hop⟩ := decode_of_format_cbExt (show formatOf 0xCB = .cbExt from rfl) b1 (b2 :: more)
      exact ⟨i, b2 :: more, hdec, hop, rfl⟩
    · obtain ⟨i, hdec, hop⟩ := decode_of_format_op (formatOf_eq_op h16 hcb) (b1 :: b2 :: more)
      exact ⟨i, b1 :: b2 :: more, hdec, hop, by rw [if_neg h16, if_neg hcb]; rfl⟩

end Sys2Proof

/-! PROOFS. The 16-bit immediate loads as whole steps (41_load_imm16.md R80, R81). -/

namespace Sys2Proof.Machine

/-! ## The step, told from the byte at `pc`: the other cases of `step_cases` are of other bytes -/

theorem step_of_ldSpD16 {s : State} (h : read s.mem s.pc = 0x31) :
    step s = execLdSpD16 (wordOfBytes (read s.mem (s.pc + 2)) (read s.mem (s.pc + 1))) (fetchToIr s) := by
  simpa [h] using step_cases s

theorem step_of_ldHlD16 {s : State} (h : read s.mem s.pc = 0x21) :
    step s = execLdHlD16 (wordOfBytes (read s.mem (s.pc + 2)) (read s.mem (s.pc + 1))) (fetchToIr s) := by
  simpa [h] using step_cases s

/-! ## `pc` and `ir` after a three-byte instruction -/

/-- One byte fetched into `ir`, then two operand bytes passed (40_execution_cycle.md R71, R72, R75). -/
theorem skipImmediate16_fetchToIr (s : State) :
    (fetchToIr s).skipImmediate16 = { s with pc := s.pc + 3, ir := read s.mem s.pc } := by
  have hpc : s.pc + 1 + 1 + 1 = s.pc + 3 := by
    rw [BitVec.add_assoc, BitVec.add_assoc]
    rfl
  rw [← hpc]
  rfl

/-! ## The statements -/

/-- Settles O18: the body writes the operand word to `sp`; the fetch and the skip write `ir` and `pc`. -/
theorem stepLdSp : Obligations.StepLdSp := by
  intro s h
  rw [step_of_ldSpD16 h, execLdSpD16, skipImmediate16_fetchToIr, h]
  rfl

/-- Settles O19: the pair setter splits the operand word into the two bytes it was put together from. -/
theorem stepLdHl : Obligations.StepLdHl := by
  intro s h
  rw [step_of_ldHlD16 h, execLdHlD16, skipImmediate16_fetchToIr, h, writePair, hiByte_wordOfBytes, loByte_wordOfBytes]
  rfl

end Sys2Proof.Machine

/-! PROOFS. `SetFlags` (42_alu_flags.md R85) and `XOR A` as a whole step (R86). -/

namespace Sys2Proof.Machine

/-! ## The flag byte, bit by bit -/

/-- A bit of a flag's part of `f`: the mask's own bit if the flag is set. -/
theorem getLsbD_ite_mask (b : Bool) (mask : Byte) (i : Nat) :
    (if b then mask else 0).getLsbD i = (b && mask.getLsbD i) := by
  cases b
  · exact BitVec.getLsbD_zero
  · rfl

/-- Each bit of `f` after `SetFlags` comes from the low nibble of `f` and from the four masks. -/
theorem setFlags_f_getLsbD (z n h c : Bool) (s : State) (i : Nat) :
    (setFlags z n h c s).f.getLsbD i =
      (s.f.getLsbD i && (0x0F : Byte).getLsbD i || z && maskZ.getLsbD i || n && maskN.getLsbD i ||
        h && maskH.getLsbD i || c && maskC.getLsbD i) := by
  simp only [setFlags, State.setF_f, flagByte, BitVec.getLsbD_or, BitVec.getLsbD_and, getLsbD_ite_mask]

@[simp] theorem flagZ_setFlags (z n h c : Bool) (s : State) : (setFlags z n h c s).flagZ = z :=
  (setFlags_f_getLsbD z n h c s 7).trans (by simp [maskZ, maskN, maskH, maskC])

@[simp] theorem flagN_setFlags (z n h c : Bool) (s : State) : (setFlags z n h c s).flagN = n :=
  (setFlags_f_getLsbD z n h c s 6).trans (by simp [maskZ, maskN, maskH, maskC])

@[simp] theorem flagH_setFlags (z n h c : Bool) (s : State) : (setFlags z n h c s).flagH = h :=
  (setFlags_f_getLsbD z n h c s 5).trans (by simp [maskZ, maskN, maskH, maskC])

@[simp] theorem flagC_setFlags (z n h c : Bool) (s : State) : (setFlags z n h c s).flagC = c :=
  (setFlags_f_getLsbD z n h c s 4).trans (by simp [maskZ, maskN, maskH, maskC])

/-- A flag whose mask lies in the high nibble adds nothing to the low one. -/
theorem ite_mask_and_lowNibble {mask : Byte} (hm : mask &&& 0x0F = 0) (b : Bool) :
    (if b then mask else 0) &&& 0x0F = 0#8 := by
  cases b
  · exact BitVec.zero_and
  · exact hm

/-- `SetFlags` keeps bits 3 to 0 of `f` (10_state.md R16). -/
theorem flagByte_and_lowNibble (f : Byte) (z n h c : Bool) : flagByte f z n h c &&& 0x0F = f &&& 0x0F := by
  have hZ : maskZ &&& 0x0F = 0 := rfl
  have hN : maskN &&& 0x0F = 0 := rfl
  have hH : maskH &&& 0x0F = 0 := rfl
  have hC : maskC &&& 0x0F = 0 := rfl
  simp only [flagByte, BitVec.and_or_distrib_right, ite_mask_and_lowNibble hZ, ite_mask_and_lowNibble hN,
    ite_mask_and_lowNibble hH, ite_mask_and_lowNibble hC, BitVec.or_zero, BitVec.and_assoc, BitVec.and_self]

/-- The flags `XOR A` sets: Zero alone. -/
theorem flagByte_zero_only (f : Byte) : flagByte f true false false false = (f &&& 0x0F) ||| 0x80 := by
  simp [flagByte, maskZ]

/-! ## `XOR A` -/

theorem step_of_xorA {s : State} (h : read s.mem s.pc = 0xAF) : step s = execXorA (fetchToIr s) := by
  simpa [h] using step_cases s

/-- The body in every state: `a XOR a` is 0, whatever `a` was. -/
theorem execXorA_eq (s : State) :
    execXorA s =
      .next { s with a := 0, f := (s.f &&& 0x0F) ||| 0x80, outcome := some (.executed .xorA) } := by
  rw [execXorA, BitVec.xor_self, setFlags, flagByte_zero_only]
  rfl

/-! ## The statements -/

/-- Settles O20: the body clears `a` and writes the flags; the fetch writes `ir` and `pc`. -/
theorem stepXorA : Obligations.StepXorA := by
  intro s h
  rw [step_of_xorA h, execXorA_eq, ← h]
  rfl

/-- Settles O47: the four masks are four different bits, all above the low nibble. -/
theorem setFlagsSetsEachBit : Obligations.SetFlagsSetsEachBit := fun z n h c s =>
  ⟨flagZ_setFlags z n h c s, flagN_setFlags z n h c s, flagH_setFlags z n h c s, flagC_setFlags z n h c s,
    flagByte_and_lowNibble s.f z n h c, rfl⟩

end Sys2Proof.Machine

/-! PROOFS. `LD (HL-),A` as a whole step (43_store_hld.md R90). -/

namespace Sys2Proof.Machine

/-! ## What a write leaves at each address -/

/-- The byte at the address written to: stored in a read/write range, discarded elsewhere (20_memory.md R35). -/
theorem read_write_same (m : Memory) (addr : Word) (v : Byte) :
    read (write m addr v) addr =
      if (0x8000 ≤ addr.toNat ∧ addr.toNat ≤ 0xDFFF) ∨ (0xFE00 ≤ addr.toNat ∧ addr.toNat ≤ 0xFE9F) ∨
          0xFF00 ≤ addr.toNat
        then v else read m addr := by
  simp only [read_write, true_and, writable_iff]

theorem read_write_of_ne {addr b : Word} (h : b ≠ addr) (m : Memory) (v : Byte) :
    read (write m addr v) b = read m b := by
  rw [read_write, if_neg (fun hw => h hw.1)]

/-! ## `LD (HL-),A` -/

theorem step_of_ldHldA {s : State} (h : read s.mem s.pc = 0x32) : step s = execLdHldA (fetchToIr s) := by
  simpa [h] using step_cases s

/-- The body in every state: the store goes to `hl` as it was before the decrement. -/
theorem execLdHldA_eq (s : State) :
    execLdHldA s =
      .next { s with mem := write s.mem (storeAddress s) s.a,
                     h := hiByte (storeAddress s - 1), l := loByte (storeAddress s - 1),
                     outcome := some (.executed .ldHldA) } := rfl

/-- The fetch writes `ir` and `pc`, and the body runs on the `h`, `l`, `a` and memory of the state before it. -/
theorem step_ldHldA_eq {s : State} (h : read s.mem s.pc = 0x32) :
    step s =
      .next { s with ir := 0x32, pc := s.pc + 1, mem := write s.mem (storeAddress s) s.a,
                     h := hiByte (storeAddress s - 1), l := loByte (storeAddress s - 1),
                     outcome := some (.executed .ldHldA) } := by
  rw [step_of_ldHldA h, execLdHldA_eq, ← h]
  rfl

/-! ## The statement -/

/-- Settles O21: `step_ldHldA_eq` gives the next state, whose memory is one `write` at the old `hl`. -/
theorem stepLdHldA : Obligations.StepLdHldA := fun s h =>
  ⟨_, step_ldHldA_eq h, rfl, rfl, read_write_same s.mem (storeAddress s) s.a,
    fun _ hb => read_write_of_ne hb s.mem s.a⟩

end Sys2Proof.Machine

/-! PROOFS. The ROM loader: what each address reads after a load (70_reset_and_hazards.md R116). -/

namespace Sys2Proof.Machine

/-! ## What each address reads after a load -/

/-- `read_loadRom` at the address of an image index: below 0x8000 the index is the address, and ROM takes the byte. -/
theorem read_loadRom_ofNat {i : Nat} (hi : i < 0x8000) (m : Memory) (v : Byte) (b : Word) :
    read (loadRom m (BitVec.ofNat 16 i) v) b = if b.toNat = i then v else read m b := by
  have haddr : (BitVec.ofNat 16 i).toNat = i := Nat.mod_eq_of_lt (by omega)
  have hrom : loadable (BitVec.ofNat 16 i) = true := (loadable_iff _).mpr (by omega)
  have heq : b = BitVec.ofNat 16 i ↔ b.toNat = i := by rw [← BitVec.toNat_inj, haddr]
  simp only [read_loadRom, hrom, and_true, heq]

/-- A load from index `i` on reaches the addresses from `i` up to the end of the image or of ROM, whichever comes first;
no later byte of the image goes to an address already stored at. -/
theorem read_loadFrom (image : List Byte) (i : Nat) (m : Memory) (b : Word) :
    read (loadFrom i image m) b =
      if i ≤ b.toNat ∧ b.toNat < min (i + image.length) 0x8000 then image.getD (b.toNat - i) 0 else read m b := by
  induction image generalizing i m with
  | nil => rw [if_neg (by simp only [List.length_nil]; omega)]; rfl
  | cons v vs ih =>
    rw [loadFrom, List.length_cons]
    by_cases hi : i < 0x8000
    · rw [if_pos hi, ih, read_loadRom_ofNat hi]
      by_cases hb : b.toNat = i
      · rw [if_neg (by omega), if_pos hb, if_pos (by omega), hb, Nat.sub_self, List.getD_cons_zero]
      · have hrange : i + 1 ≤ b.toNat ∧ b.toNat < min (i + 1 + vs.length) 0x8000 ↔
            i ≤ b.toNat ∧ b.toNat < min (i + (vs.length + 1)) 0x8000 := by omega
        rw [if_neg hb]
        refine ite_congr (propext hrange) (fun h => ?_) (fun _ => rfl)
        rw [show b.toNat - i = b.toNat - (i + 1) + 1 by omega, List.getD_cons_succ]
    · rw [if_neg hi, if_neg (by omega)]

/-- The load of a whole image begins at address 0. -/
theorem read_loadImage (image : List Byte) (s : State) (addr : Word) :
    read (loadImage image s).mem addr =
      if addr.toNat < min image.length 0x8000 then image.getD addr.toNat 0 else read s.mem addr := by
  simpa [loadImage] using read_loadFrom image 0 s.mem addr

/-! ## The statement -/

/-- Settles O38: `read_loadImage` at every address; by its definition the loader writes the memory alone. -/
theorem loadPutsImageInRom : Obligations.LoadPutsImageInRom := fun image s =>
  ⟨read_loadImage image s, rfl⟩

end Sys2Proof.Machine

/-! PROOFS. The decoder and the encoder undo each other (30_encoding.md R55 to R61). -/

namespace Sys2Proof

/-! ## The bytes of an instruction, by the format of its base opcode -/

theorem encodeShape (i : Instr) : Laws.EncodeShape.Statement i := by
  cases i
  case ldHlD16 d16 => exact Laws.EncodeShape.ldHlD16 d16
  case ldSpD16 d16 => exact Laws.EncodeShape.ldSpD16 d16
  case cbXx ext => exact Laws.EncodeShape.cbXx ext
  all_goals exact Laws.EncodeShape.of_op _ rfl rfl

theorem encode_eq_opcode_cons (i : Instr) : ∃ operands, encode i = i.opcode :: operands ∧
    operands.length + 1 = lengthOf i.opcode := (encodeShape i).1

theorem Instr.wellFormed_eq_true (i : Instr) : i.wellFormed = true := (encodeShape i).2

theorem encode_of_format_op {i : Instr} (hf : formatOf i.opcode = .op) : encode i = [i.opcode] := by
  obtain ⟨operands, henc, hlen⟩ := encode_eq_opcode_cons i
  rw [lengthOf, hf, formatLength, Nat.add_eq_right, List.length_eq_zero_iff] at hlen
  rw [henc, hlen]

theorem lengthOf_eq (op : Byte) :
    lengthOf op = if op = 0x21 ∨ op = 0x31 then 3 else if op = 0xCB then 2 else 1 := by
  by_cases h16 : op = 0x21 ∨ op = 0x31
  · rw [if_pos h16, lengthOf, formatOf_eq_opD16 h16, formatLength]
  · rw [if_neg h16]
    by_cases hcb : op = 0xCB
    · subst hcb
      rfl
    · rw [if_neg hcb, lengthOf, formatOf_eq_op h16 hcb, formatLength]

/-! ## From an instruction to its bytes and back -/

/-- The map's entry for the base opcode of a one-byte instruction is that instruction (30_encoding.md R59). -/
theorem rowOf_opcode {i : Instr} (hf : formatOf i.opcode = .op) : rowOf i.opcode 0 0 = .ok i := by
  cases i
  case ldHlD16 => cases hf
  case ldSpD16 => cases hf
  case cbXx => cases hf
  all_goals rfl

/-- The three instructions with operand bytes, each with the format of its base opcode; every other is one byte. -/
theorem Instr.operand_cases (i : Instr) :
    (∃ d16, i = .ldHlD16 d16) ∨ (∃ d16, i = .ldSpD16 d16) ∨ (∃ ext, i = .cbXx ext) ∨ formatOf i.opcode = .op := by
  cases i
  case ldHlD16 d16 => exact .inl ⟨d16, rfl⟩
  case ldSpD16 d16 => exact .inr (.inl ⟨d16, rfl⟩)
  case cbXx ext => exact .inr (.inr (.inl ⟨ext, rfl⟩))
  all_goals exact .inr (.inr (.inr rfl))

theorem decode_ldHlD16 (lo hi : Byte) (rest : List Byte) :
    decode (0x21 :: lo :: hi :: rest) = .ok (.ldHlD16 (wordOfBytes hi lo), rest) := rfl

theorem decode_ldSpD16 (lo hi : Byte) (rest : List Byte) :
    decode (0x31 :: lo :: hi :: rest) = .ok (.ldSpD16 (wordOfBytes hi lo), rest) := rfl

theorem decode_cbXx (ext : Byte) (rest : List Byte) : decode (0xCB :: ext :: rest) = .ok (.cbXx ext, rest) := rfl

theorem decode_encode (i : Instr) (rest : List Byte) : decode (encode i ++ rest) = .ok (i, rest) := by
  obtain ⟨d16, rfl⟩ | ⟨d16, rfl⟩ | ⟨ext, rfl⟩ | hf := i.operand_cases
  · exact (decode_ldHlD16 (loByte d16) (hiByte d16) rest).trans (by rw [wordOfBytes_hiByte_loByte])
  · exact (decode_ldSpD16 (loByte d16) (hiByte d16) rest).trans (by rw [wordOfBytes_hiByte_loByte])
  · exact decode_cbXx ext rest
  · rw [encode_of_format_op hf, List.singleton_append]
    simp only [decode, hf, rowOf_opcode hf, Except.map]

/-! ## From bytes to an instruction and back -/

/-- A list that decodes is long enough, and what it decodes to is an instruction whose encoding begins the list: in each
format the operand bytes read are the ones the encoder writes (30_encoding.md R57, R58). -/
theorem eq_encode_append_of_decode {bs : List Byte} {i : Instr} {rest : List Byte} (h : decode bs = .ok (i, rest)) :
    bs = encode i ++ rest := by
  match bs with
  | [] => cases h
  | op :: tail =>
    by_cases h16 : op = 0x21 ∨ op = 0x31
    · match tail with
      | [] | [_] => obtain rfl | rfl := h16 <;> cases h
      | lo :: hi :: _ => obtain rfl | rfl := h16 <;> cases h <;> simp [encode]
    · by_cases hcb : op = 0xCB
      · subst hcb
        match tail with
        | [] => cases h
        | ext :: _ => cases h; rfl
      · obtain ⟨j, hdec, hop⟩ := decode_of_format_op (formatOf_eq_op h16 hcb) tail
        rw [hdec] at h
        cases h
        subst hop
        rw [encode_of_format_op (formatOf_eq_op h16 hcb)]
        rfl

/-! ## The statements -/

/-- Settles O2: every instruction is well formed, and one case for each shape of encoding is enough. -/
theorem decodeOfEncodeIsIdentity : Obligations.DecodeOfEncodeIsIdentity := fun i rest _ => decode_encode i rest

/-- Settles O3: by the format the base opcode has. -/
theorem encodeOfDecodeIsIdentity : Obligations.EncodeOfDecodeIsIdentity := fun _ i _ h =>
  ⟨eq_encode_append_of_decode h, i.wellFormed_eq_true⟩

/-- Settles O5: a list that decodes begins with an encoding, whose length the base opcode tells; a list as long as its
base opcode asks has the operand bytes of its format. -/
theorem decoderRefusesOnlyTruncatedBytes : Obligations.DecoderRefusesOnlyTruncatedBytes := by
  intro bs
  constructor
  · rintro ⟨i, rest, h⟩
    obtain ⟨operands, henc, hlen⟩ := encode_eq_opcode_cons i
    refine ⟨i.opcode, operands ++ rest, by rw [eq_encode_append_of_decode h, henc, List.cons_append], ?_⟩
    rw [← lengthOf_eq, ← hlen, List.length_append]
    omega
  · rintro ⟨op, tail, rfl, hlen⟩
    by_cases h16 : op = 0x21 ∨ op = 0x31
    · rw [if_pos h16] at hlen
      match tail with
      | lo :: hi :: rest =>
        obtain ⟨i, hdec, -⟩ := decode_of_format_opD16 (formatOf_eq_opD16 h16) lo hi rest
        exact ⟨i, rest, hdec⟩
    · by_cases hcb : op = 0xCB
      · subst hcb
        match tail with
        | ext :: rest => exact ⟨_, rest, decode_cbXx ext rest⟩
      · obtain ⟨i, hdec, -⟩ := decode_of_format_op (formatOf_eq_op h16 hcb) tail
        exact ⟨i, tail, hdec⟩

/-- Settles O1: eight closed words, each read by the decoder's own definition. -/
theorem writtenOutWordsDecode : Obligations.WrittenOutWordsDecode := ⟨rfl, rfl, rfl, rfl, rfl, rfl, rfl, rfl⟩

/-- Settles O6: the map's entry for `0xCB` is `CB xx`, whatever the continuation byte. -/
theorem continuationByteSelectsNothing : Obligations.ContinuationByteSelectsNothing := decode_cbXx

end Sys2Proof

/-! PROOFS. The bodies in every state (41_load_imm16.md, 42_alu_flags.md, 43_store_hld.md,
44_prefix_and_unimplemented.md). -/

namespace Sys2Proof.Machine

/-! ## Each body in closed form -/

/-- Settles O12: the immediate is the instruction's own field. -/
theorem ldSpBodyCompletes : Obligations.LdSpBodyCompletes := fun _ _ => rfl

/-- Settles O13: `hiByte` and `loByte` are the two halves written. -/
theorem ldHlBodyCompletes : Obligations.LdHlBodyCompletes := fun _ _ => rfl

/-- Settles O14: by the closed form of the body. -/
theorem xorABodyCompletes : Obligations.XorABodyCompletes := execXorA_eq

/-- Settles O15: the store goes to `hl` before the decrement. -/
theorem ldHldABodyCompletes : Obligations.LdHldABodyCompletes := execLdHldA_eq

/-- Settles O16: the continuation byte is reported and nothing else is written. -/
theorem cbBodyReports : Obligations.CbBodyReports := fun _ _ => rfl

/-- The base opcodes with a dispatch case, and `0xCB`. -/
theorem not_mem_dispatched_iff (op : Byte) :
    op ∉ ([0x21, 0x31, 0x32, 0xAF, 0xCB] : List Byte) ↔
      op ≠ 0x21 ∧ op ≠ 0x31 ∧ op ≠ 0x32 ∧ op ≠ 0xAF ∧ op ≠ 0xCB := by
  simp only [List.mem_cons, List.not_mem_nil, or_false, not_or, ne_eq]

/-- Settles O17: all 251 share the meaning `raiseForBase`. -/
theorem unimplementedBodiesReport : Obligations.UnimplementedBodiesReport := by
  intro i s hop
  obtain ⟨h21, h31, h32, haf, hcb⟩ := (not_mem_dispatched_iff i.opcode).mp hop
  exact exec_eq_raiseForBase i s h31 h21 hcb haf h32

/-- The four defined instructions and `CB xx`, by name; every other has an opcode that is none of theirs. -/
theorem instr_cases (i : Instr) :
    (∃ d16, i = .ldSpD16 d16) ∨ (∃ d16, i = .ldHlD16 d16) ∨ i = .xorA ∨ i = .ldHldA ∨ (∃ ext, i = .cbXx ext) ∨
      i.opcode ∉ ([0x21, 0x31, 0x32, 0xAF, 0xCB] : List Byte) := by
  cases i
  case ldSpD16 d16 => exact .inl ⟨d16, rfl⟩
  case ldHlD16 d16 => exact .inr (.inl ⟨d16, rfl⟩)
  case xorA => exact .inr (.inr (.inl rfl))
  case ldHldA => exact .inr (.inr (.inr (.inl rfl)))
  case cbXx ext => exact .inr (.inr (.inr (.inr (.inl ⟨ext, rfl⟩))))
  all_goals exact .inr (.inr (.inr (.inr (.inr (by decide)))))

/-- The flags `XOR A` writes leave bits 3 to 0 of `f` (10_state.md R16). -/
theorem zeroFlag_and_lowNibble (f : Byte) : (f &&& 0x0F ||| 0x80) &&& 0x0F = f &&& 0x0F := by
  rw [← flagByte_zero_only, flagByte_and_lowNibble]

/-! ## The frames -/

/-- Settles O24: each body's closed form shows what it writes; none but the store writes memory. -/
theorem nonStoringInstructionsFrame : Obligations.NonStoringInstructionsFrame := by
  intro i s t hne h
  obtain ⟨d16, rfl⟩ | ⟨d16, rfl⟩ | rfl | rfl | ⟨ext, rfl⟩ | hop := instr_cases i
  · cases (ldSpBodyCompletes d16 s).symm.trans h
    exact ⟨fun _ => rfl, rfl, rfl, rfl, rfl, rfl, rfl, (absurd rfl ·), fun _ => ⟨rfl, rfl⟩, fun _ => ⟨rfl, rfl⟩, rfl⟩
  · cases (ldHlBodyCompletes d16 s).symm.trans h
    exact ⟨fun _ => rfl, rfl, rfl, rfl, rfl, rfl, rfl, fun _ => rfl, (absurd rfl ·), fun _ => ⟨rfl, rfl⟩, rfl⟩
  · cases (xorABodyCompletes s).symm.trans h
    exact ⟨fun _ => rfl, rfl, rfl, rfl, rfl, rfl, rfl, fun _ => rfl, fun _ => ⟨rfl, rfl⟩, (absurd rfl ·),
      zeroFlag_and_lowNibble s.f⟩
  · exact absurd rfl hne
  · cases (cbBodyReports ext s).symm.trans h
    simp
  · cases (unimplementedBodiesReport i s hop).symm.trans h
    simp

/-- Settles O25: the closed form writes `h`, `l` and, through one `write`, the byte at the old `hl`. -/
theorem storeInstructionFrame : Obligations.StoreInstructionFrame := by
  intro s t h
  cases (ldHldABodyCompletes s).symm.trans h
  refine ⟨rfl, rfl, rfl, rfl, rfl, rfl, rfl, rfl, rfl, rfl, ?_⟩
  rintro ea rfl addr hne
  exact read_write_of_ne hne s.mem s.a

end Sys2Proof.Machine

/-! PROOFS. What a whole step can do, each case once, and what follows for every step (40_execution_cycle.md R70). -/

namespace Sys2Proof.Machine

/-! ## The two steps that raise -/

theorem step_of_cbPrefix {s : State} (h : read s.mem s.pc = 0xCB) :
    step s = execCbXx (read s.mem (s.pc + 1)) (fetchToIr (fetchToIr s)) := by
  simpa [h] using step_cases s

theorem step_of_unimplemented {s : State} (h : read s.mem s.pc ∉ ([0x21, 0x31, 0x32, 0xAF, 0xCB] : List Byte)) :
    step s = raiseForBase (read s.mem s.pc) (fetchToIr s) := by
  obtain ⟨h21, h31, h32, haf, hcb⟩ := (not_mem_dispatched_iff _).mp h
  simpa only [h21, h31, h32, haf, hcb, ne_eq, not_false_eq_true, false_and, false_or, true_and] using step_cases s

theorem fetchToIr_eq (s : State) : fetchToIr s = { s with pc := s.pc + 1, ir := read s.mem s.pc } := rfl

theorem pc_add_one_add_one (w : Word) : w + 1 + 1 = w + 2 := by
  rw [BitVec.add_assoc]
  rfl

/-- Settles O22: two bytes fetched into `ir`, and `pc0` is two before where they leave `pc`. -/
theorem stepCbPrefix : Obligations.StepCbPrefix := by
  intro s h
  rw [step_of_cbPrefix h, execCbXx, raiseForPrefixed, fetchToIr_eq, fetchToIr_eq, pc_add_two_sub_two,
    pc_add_one_add_one]
  rfl

/-- Settles O23: one byte fetched into `ir`, and `pc0` is one before where it leaves `pc`. -/
theorem stepUnimplemented : Obligations.StepUnimplemented := by
  intro s h
  rw [step_of_unimplemented h, raiseForBase, fetchToIr_eq, pc_add_one_sub_one]
  rfl

/-! ## The six next states -/

/-- What a step from `s` can leave: one case for each of the four defined instructions, one for `0xCB`, one for the
opcodes with no dispatch case. -/
inductive StepEffect (s : State) : State → Prop
  | ldSp (hop : read s.mem s.pc = 0x31) :
    StepEffect s { s with ir := 0x31, pc := s.pc + 3, sp := wordOfBytes (read s.mem (s.pc + 2)) (read s.mem (s.pc + 1)),
                          outcome := some (.executed .ldSpD16) }
  | ldHl (hop : read s.mem s.pc = 0x21) :
    StepEffect s { s with ir := 0x21, pc := s.pc + 3, h := read s.mem (s.pc + 2), l := read s.mem (s.pc + 1),
                          outcome := some (.executed .ldHlD16) }
  | xorA (hop : read s.mem s.pc = 0xAF) :
    StepEffect s { s with ir := 0xAF, pc := s.pc + 1, a := 0, f := (s.f &&& 0x0F) ||| 0x80,
                          outcome := some (.executed .xorA) }
  | ldHldA (hop : read s.mem s.pc = 0x32) :
    StepEffect s { s with ir := 0x32, pc := s.pc + 1, mem := write s.mem (storeAddress s) s.a,
                          h := hiByte (storeAddress s - 1), l := loByte (storeAddress s - 1),
                          outcome := some (.executed .ldHldA) }
  | cbPrefix (hop : read s.mem s.pc = 0xCB) :
    StepEffect s { s with ir := read s.mem (s.pc + 1), pc := s.pc + 2,
                          outcome := some (.unimplementedOpcode ⟨true, read s.mem (s.pc + 1), s.pc⟩) }
  | unimplemented (hop : read s.mem s.pc ∉ ([0x21, 0x31, 0x32, 0xAF, 0xCB] : List Byte)) :
    StepEffect s { s with ir := read s.mem s.pc, pc := s.pc + 1,
                          outcome := some (.unimplementedOpcode ⟨false, read s.mem s.pc, s.pc⟩) }

theorem stepEffect_of_step {s t : State} (h : step s = .next t) : StepEffect s t := by
  by_cases h31 : read s.mem s.pc = 0x31
  · cases (stepLdSp s h31).symm.trans h
    exact .ldSp h31
  by_cases h21 : read s.mem s.pc = 0x21
  · cases (stepLdHl s h21).symm.trans h
    exact .ldHl h21
  by_cases haf : read s.mem s.pc = 0xAF
  · cases (stepXorA s haf).symm.trans h
    exact .xorA haf
  by_cases h32 : read s.mem s.pc = 0x32
  · cases (step_ldHldA_eq h32).symm.trans h
    exact .ldHldA h32
  by_cases hcb : read s.mem s.pc = 0xCB
  · cases (stepCbPrefix s hcb).symm.trans h
    exact .cbPrefix hcb
  · have hop := (not_mem_dispatched_iff _).mpr ⟨h21, h31, h32, haf, hcb⟩
    cases (stepUnimplemented s hop).symm.trans h
    exact .unimplemented hop

/-! ## The step as the spec's pseudocode -/

/-- The two operand bytes read one at a time after the fetch are the ones the step decodes (log entry 3). -/
theorem fetch16_fetchToIr (s : State) :
    fetch16 (fetchToIr s) =
      (wordOfBytes (read s.mem (s.pc + 2)) (read s.mem (s.pc + 1)), (fetchToIr s).skipImmediate16) := by
  rw [← pc_add_one_add_one]
  rfl

theorem cycleStep_of_ne_cb {s : State} (h : read s.mem s.pc ≠ 0xCB) :
    cycleStep s = cycleDispatch s.pc (fetchToIr s) := if_neg h

theorem step_eq_cycleStep (s : State) : step s = .next (cycleStep s) := by
  obtain ⟨hop, hs⟩ | ⟨hop, hs⟩ | ⟨hop, hs⟩ | ⟨hop, hs⟩ | ⟨hop, hs⟩ | ⟨h31, h21, hcb, haf, h32, hs⟩ := step_cases s
  · rw [hs, cycleStep_of_ne_cb (by rw [hop]; decide), cycleDispatch, fetchToIr_ir, hop, cycleLdSp, fetch16_fetchToIr]
    rfl
  · rw [hs, cycleStep_of_ne_cb (by rw [hop]; decide), cycleDispatch, fetchToIr_ir, hop, cycleLdHl, fetch16_fetchToIr]
    rfl
  · rw [stepCbPrefix s hop, cycleStep, fetchToIr_ir, hop, ← pc_add_one_add_one]
    rfl
  · rw [hs, cycleStep_of_ne_cb (by rw [hop]; decide), cycleDispatch, fetchToIr_ir, hop]
    rfl
  · rw [hs, cycleStep_of_ne_cb (by rw [hop]; decide), cycleDispatch, fetchToIr_ir, hop]
    rfl
  · rw [hs, cycleStep_of_ne_cb hcb, cycleDispatch, fetchToIr_ir, if_neg h31, if_neg h21, if_neg haf, if_neg h32,
      raiseForBase, fetchToIr_eq, pc_add_one_sub_one]
    rfl

/-! ## The statements about every step -/

/-- Settles O7: by the definition of the step, and the two cases of the fetch phase. -/
theorem stepRunsDecodedInstruction : Obligations.StepRunsDecodedInstruction := by
  intro s i rest hdec _
  exact ⟨by simp only [step, hdec], fetchPhase_of_ne_prefix, fetchPhase_of_prefix⟩

theorem step_reports {s t : State} (h : step s = .next t) : ∃ o, t.outcome = some o := by
  cases stepEffect_of_step h <;> exact ⟨_, rfl⟩

/-- Settles O8: the next state is `step_next`'s, and each of the six carries its report. -/
theorem everyStepHasNextStateAndOutcome : Obligations.EveryStepHasNextStateAndOutcome := by
  intro s
  obtain ⟨t, h⟩ := step_next s
  obtain ⟨o, ho⟩ := step_reports h
  exact ⟨t, o, h, ho⟩

/-- Settles O9: the two agree in each of the six cases. -/
theorem stepRefinesCyclePseudocode : Obligations.StepRefinesCyclePseudocode := step_eq_cycleStep

/-- Settles O10: in each of the six next states `pc` is past the bytes of the opcode's own format. -/
theorem stepAdvancesPcByLength : Obligations.StepAdvancesPcByLength := by
  intro s t h
  cases stepEffect_of_step h with
  | unimplemented hop =>
    obtain ⟨h21, h31, -, -, hcb⟩ := (not_mem_dispatched_iff _).mp hop
    rw [if_neg (not_or.mpr ⟨h21, h31⟩), if_neg hcb]
  | _ hop => rw [hop]; rfl

theorem step_ir {s t : State} (h : step s = .next t) :
    t.ir = if read s.mem s.pc = 0xCB then read s.mem (s.pc + 1) else read s.mem s.pc := by
  cases stepEffect_of_step h with
  | unimplemented hop =>
    obtain ⟨-, -, -, -, hcb⟩ := (not_mem_dispatched_iff _).mp hop
    rw [if_neg hcb]
  | cbPrefix hop => rw [if_pos hop]
  | _ hop => rw [hop]; rfl

/-- Settles O11: `CB xx` alone fetches into `ir` twice. -/
theorem stepLeavesOpcodeInIr : Obligations.StepLeavesOpcodeInIr := fun _ _ => step_ir

/-- Settles O26: of the six next states the one with another `f` is `XOR A`'s. -/
theorem onlyXorAWritesF : Obligations.OnlyXorAWritesF := by
  intro s t h hne
  cases stepEffect_of_step h with
  | xorA hop => exact absurd hop hne
  | _ => rfl

/-- Settles O27: of the six next states the one with another `sp` is `LD SP,d16`'s. -/
theorem onlyLdSpWritesSp : Obligations.OnlyLdSpWritesSp := by
  intro s t h hne
  cases stepEffect_of_step h with
  | ldSp hop => exact absurd hop hne
  | _ => rfl

/-- Settles O28: none of the six next states names one of these registers. -/
theorem noStepWritesBcdeOrIe : Obligations.NoStepWritesBcdeOrIe := by
  intro s t h
  cases stepEffect_of_step h <;> exact ⟨rfl, rfl, rfl, rfl, rfl⟩

/-- Settles O29: `XOR A` writes the high nibble of `f`, and no other step writes `f`. -/
theorem noStepWritesLowFlagBits : Obligations.NoStepWritesLowFlagBits := by
  intro s t h
  cases stepEffect_of_step h with
  | xorA => exact zeroFlag_and_lowNibble s.f
  | _ => rfl

end Sys2Proof.Machine

/-! PROOFS. What a step does to memory and what it reads (20_memory.md sections 1, 3 and 4; 10_state.md section 7). -/

namespace Sys2Proof.Machine

/-! ## At most one write -/

/-- `m'` is `m`, or `m` after one `write`: all that a step and a diagnostic write do to memory. -/
def WrittenFrom (m m' : Memory) : Prop := m' = m ∨ ∃ addr v, m' = write m addr v

theorem WrittenFrom.wf {m m' : Memory} (h : WrittenFrom m m') (hm : Memory.wf m = true) : Memory.wf m' = true := by
  obtain rfl | ⟨addr, v, rfl⟩ := h
  · exact hm
  · exact wf_write addr v hm

/-- `write` is a no-op at every ROM address (20_memory.md R35). -/
theorem WrittenFrom.read_rom {m m' : Memory} (h : WrittenFrom m m') {b : Word} (hb : b.toNat ≤ 0x7FFF) :
    read m' b = read m b := by
  obtain rfl | ⟨addr, v, rfl⟩ := h
  · rfl
  · refine (read_write m addr b v).trans (if_neg ?_)
    rintro ⟨rfl, hw⟩
    rw [writable_iff] at hw
    omega

theorem step_writtenFrom {s t : State} (h : step s = .next t) : WrittenFrom s.mem t.mem := by
  cases stepEffect_of_step h with
  | ldHldA => exact .inr ⟨_, _, rfl⟩
  | _ => exact .inl rfl

/-! ## The statements -/

/-- Settles O33: a step writes memory by `write` or not at all, and `write` keeps the canonical form. -/
theorem stepKeepsMemoryCanonical : Obligations.StepKeepsMemoryCanonical := fun _ _ hwf h => (step_writtenFrom h).wf hwf

/-- Settles O31: a step writes memory by `write` or not at all, and `write` stores nothing in ROM. -/
theorem noStepChangesRom : Obligations.NoStepChangesRom := fun _ _ h _ haddr => (step_writtenFrom h).read_rom haddr

/-- Settles O32: the store is at the `pc` the step leaves, so that byte is what the next step fetches; it is not `0xCB`,
so nothing is fetched into `ir` after it. -/
theorem storeIsSeenByNextFetch : Obligations.StoreIsSeenByNextFetch := by
  intro s t u hop hea hw ha hst hu
  cases (step_ldHldA_eq hop).symm.trans hst
  have hread : read (write s.mem (storeAddress s) s.a) (s.pc + 1) = s.a := by
    rw [hea, read_write, if_pos ⟨rfl, hw⟩]
  refine (step_ir hu).trans ?_
  rw [hread, if_neg ha]

/-- Settles O30: the byte at `pc` is the same in both states, so both take the same one of the six cases, and each
writes values made of `pc`, `a`, `h`, `l` and memory, but for the low nibble of `f`. -/
theorem stepReadsOnlyPcAHlMemory : Obligations.StepReadsOnlyPcAHlMemory := by
  intro s s' t t' hpc ha hh hl hmem hst hst'
  have hea : storeAddress s = storeAddress s' := by simp only [storeAddress, readPair, hh, hl]
  cases stepEffect_of_step hst with
  | ldSp hop =>
    cases (stepLdSp s' (by rwa [← hmem, ← hpc])).symm.trans hst'
    simp [hpc, ha, hh, hl, hmem, wordOfBytes]
  | ldHl hop =>
    cases (stepLdHl s' (by rwa [← hmem, ← hpc])).symm.trans hst'
    simp [hpc, ha, hmem]
  | xorA hop =>
    cases (stepXorA s' (by rwa [← hmem, ← hpc])).symm.trans hst'
    simp [hpc, hh, hl, hmem, BitVec.and_or_distrib_right, BitVec.and_assoc]
  | ldHldA hop =>
    cases (step_ldHldA_eq (s := s') (by rwa [← hmem, ← hpc])).symm.trans hst'
    simp [hpc, ha, hmem, hea]
  | cbPrefix hop =>
    cases (stepCbPrefix s' (by rwa [← hmem, ← hpc])).symm.trans hst'
    simp [hpc, ha, hh, hl, hmem]
  | unimplemented hop =>
    cases (stepUnimplemented s' (by rwa [← hmem, ← hpc])).symm.trans hst'
    simp [hpc, ha, hh, hl, hmem]

end Sys2Proof.Machine

/-! PROOFS. The exception and the driver (60_exceptions.md section 1; 40_execution_cycle.md R77). -/

namespace Sys2Proof.Machine

/-! ## What a step raises -/

theorem raised_eq_some_iff (s : State) (r : UnimplementedRecord) :
    s.raised = some r ↔ s.outcome = some (.unimplementedOpcode r) := by
  rcases ho : s.outcome with _ | (m | r') <;> simp [State.raised, ho]

/-- A step raises at an opcode with no dispatch case and at `0xCB`, and nowhere else (60_exceptions.md R100). -/
theorem step_raised_iff {s t : State} (h : step s = .next t) (r : UnimplementedRecord) :
    t.raised = some r ↔
      (read s.mem s.pc ∉ ([0x21, 0x31, 0x32, 0xAF, 0xCB] : List Byte) ∧ r = ⟨false, read s.mem s.pc, s.pc⟩) ∨
      (read s.mem s.pc = 0xCB ∧ r = ⟨true, read s.mem (s.pc + 1), s.pc⟩) := by
  rw [raised_eq_some_iff]
  cases stepEffect_of_step h with
  | cbPrefix hop => simp [hop, eq_comm]
  | unimplemented hop =>
    obtain ⟨-, -, -, -, hcb⟩ := (not_mem_dispatched_iff _).mp hop
    simp only [Option.some.injEq, StepOutcome.unimplementedOpcode.injEq, hop, not_false_eq_true, true_and, hcb,
      false_and, or_false, eq_comm]
  | _ hop => simp [hop]

/-- At the report `ir` holds the opcode and `pc` is past the instruction. -/
theorem step_of_raised {s t : State} {r : UnimplementedRecord} (h : step s = .next t) (hr : t.raised = some r) :
    t.ir = r.opcode ∧ t.pc = r.pcAtFetch + (if r.prefixed then 2 else 1) := by
  rw [raised_eq_some_iff] at hr
  cases stepEffect_of_step h <;> cases hr <;> exact ⟨rfl, rfl⟩

theorem stepStrict_of_raised {s t : State} {r : UnimplementedRecord} (h : step s = .next t) (hr : t.raised = some r) :
    stepStrict s = .fault (.unimplementedOpcode r) := by
  simp only [stepStrict, h, hr]

theorem stepStrict_of_not_raised {s t : State} (h : step s = .next t) (hr : t.raised = none) :
    stepStrict s = .next t := by
  simp only [stepStrict, h, hr]

theorem faulted_of_raised {s : State} {r : UnimplementedRecord} (hr : s.raised = some r) : Faulted s :=
  Option.ne_none_iff_exists'.mpr ⟨r, hr⟩

theorem not_faulted_iff (s : State) : ¬ Faulted s ↔ s.raised = none := not_not

/-- Settles O49: two of the six next states carry a record. -/
theorem unimplementedRaisedExactlyThere : Obligations.UnimplementedRaisedExactlyThere := by
  intro s t r h
  refine ⟨step_raised_iff h r, fun hr => ?_⟩
  obtain ⟨hir, hpc⟩ := step_of_raised h hr
  exact ⟨hir, hpc, faulted_of_raised hr, stepStrict_of_raised h hr⟩

/-- Settles O50: by the definition of the fail-fast step at the next state of the step. -/
theorem strictStepFaultsExactlyOnReport : Obligations.StrictStepFaultsExactlyOnReport := by
  intro s
  obtain ⟨t, h⟩ := step_next s
  exact ⟨t, h, fun _ => stepStrict_of_raised h, stepStrict_of_not_raised h⟩

/-! ## Many plain steps -/

/-- What every step keeps, any number of steps keeps. -/
theorem core_run_preserves {P : State → Prop} (hstep : ∀ s t, P s → step s = .next t → P t) {n : Nat} {s t : State}
    (hs : P s) (h : Host.Core.run Sys2Proof.core n s = .next t) : P t := by
  induction n generalizing s with
  | zero =>
    cases h
    exact hs
  | succ n ih =>
    obtain ⟨u, hu⟩ := step_next s
    rw [core_run_succ n hu] at h
    exact ih (hstep s u hs hu) h

/-- None of the first `n` plain steps leaves a state that raised. -/
def NoneRaised (n : Nat) (s : State) : Prop :=
  ∀ k u, 1 ≤ k → k ≤ n → Host.Core.run Sys2Proof.core k s = .next u → u.raised = none

theorem noneRaised_zero (s : State) : NoneRaised 0 s := by
  intro k u hk hk0
  omega

theorem NoneRaised.succ {s t : State} {n : Nat} (h : step s = .next t) (ht : t.raised = none) (hn : NoneRaised n t) :
    NoneRaised (n + 1) s := by
  intro k u hk hkn hu
  obtain ⟨k, rfl⟩ := Nat.exists_eq_add_of_le' hk
  rw [core_run_succ k h] at hu
  cases k with
  | zero =>
    cases hu
    exact ht
  | succ k => exact hn (k + 1) u (by omega) (by omega) hu

/-! ## The driver's run against plain steps -/

/-- How a run from `s` with `n` steps to go after `done`, printing after `lines`, can end: with the state after all `n`
steps, or with the state after the first that raised; in a traced run each step taken adds one line. -/
inductive RunEnds (trace : Bool) (done : Nat) (lines : List TraceLine) (n : Nat) (s : State) (rep : RunReport) : Prop
  | completed (hresult : rep.result = .completed (done + n))
      (hfinal : Host.Core.run Sys2Proof.core n s = .next rep.final)
      (hnone : NoneRaised n s)
      (hlines : rep.console.length = lines.length + if trace then n else 0)
  | stopped (i : Nat) (r : UnimplementedRecord) (hi : i < n)
      (hresult : rep.result = .stopped (done + (i + 1)) r)
      (hfinal : Host.Core.run Sys2Proof.core (i + 1) s = .next rep.final)
      (hraised : rep.final.raised = some r)
      (hnone : NoneRaised i s)
      (hlines : rep.console.length = lines.length + if trace then i + 1 else 0)

theorem emitTrace_of_step {s t : State} (h : step s = .next t) :
    ∃ o, t.outcome = some o ∧ emitTrace true t = [traceLine o t] := by
  obtain ⟨o, ho⟩ := step_reports h
  exact ⟨o, ho, by simp [emitTrace, ho]⟩

theorem emitTrace_length {s t : State} (trace : Bool) (h : step s = .next t) :
    (emitTrace trace t).length = if trace then 1 else 0 := by
  cases trace with
  | false => rfl
  | true =>
    obtain ⟨o, -, hlines⟩ := emitTrace_of_step h
    rw [hlines]
    rfl

/-- A step that raised nothing before a run's end puts the end one step further. -/
theorem RunEnds.succ {s t : State} {trace : Bool} {done n : Nat} {lines : List TraceLine} {rep : RunReport}
    (h : step s = .next t) (ht : t.raised = none)
    (hends : RunEnds trace (done + 1) (lines ++ emitTrace trace t) n t rep) :
    RunEnds trace done lines (n + 1) s rep := by
  have hlen := emitTrace_length trace h
  cases hends with
  | completed hresult hfinal hnone hlines =>
    refine .completed (by rw [hresult, Nat.add_right_comm, Nat.add_assoc]) ((core_run_succ n h).trans hfinal)
      (.succ h ht hnone) ?_
    rw [hlines, List.length_append, hlen]
    split <;> omega
  | stopped i r hi hresult hfinal hraised hnone hlines =>
    refine .stopped (i + 1) r (by omega) (by rw [hresult, Nat.add_right_comm, Nat.add_assoc])
      ((core_run_succ (i + 1) h).trans hfinal) hraised (.succ h ht hnone) ?_
    rw [hlines, List.length_append, hlen]
    split <;> omega

theorem runFrom_ends (trace : Bool) (done : Nat) (lines : List TraceLine) (n : Nat) (s : State) :
    ∃ rep, runFrom trace done lines n s = .next rep ∧ RunEnds trace done lines n s rep := by
  induction n generalizing done lines s with
  | zero => exact ⟨_, rfl, .completed rfl rfl (noneRaised_zero s) (by split <;> rfl)⟩
  | succ n ih =>
    obtain ⟨t, h⟩ := step_next s
    cases ht : t.raised with
    | none =>
      obtain ⟨rep, hrun, hends⟩ := ih (done + 1) (lines ++ emitTrace trace t) t
      exact ⟨rep, (runFrom_succ_of_defined trace done n lines h ht).trans hrun, .succ h ht hends⟩
    | some r =>
      exact ⟨_, runFrom_succ_of_raised trace done n lines h ht,
        .stopped 0 r n.succ_pos rfl (core_run_succ 0 h) ht (noneRaised_zero s)
          (by rw [List.length_append, emitTrace_length trace h])⟩

theorem runEnds_of_run {trace : Bool} {n : Nat} {s : State} {rep : RunReport} (h : run trace n s = .next rep) :
    RunEnds trace 0 [] n s rep := by
  obtain ⟨rep', hrun, hends⟩ := runFrom_ends trace 0 [] n s
  cases hrun.symm.trans h
  exact hends

/-- The flag `TRACE` decides what is printed and nothing else (40_execution_cycle.md R76). -/
theorem runFrom_trace_agrees (done : Nat) (lines lines' : List TraceLine) (n : Nat) (s : State) :
    ∃ on off, runFrom true done lines n s = .next on ∧ runFrom false done lines' n s = .next off ∧
      on.result = off.result ∧ on.final = off.final := by
  induction n generalizing done lines lines' s with
  | zero => exact ⟨_, _, rfl, rfl, rfl, rfl⟩
  | succ n ih =>
    obtain ⟨t, h⟩ := step_next s
    cases ht : t.raised with
    | none =>
      rw [runFrom_succ_of_defined true done n lines h ht, runFrom_succ_of_defined false done n lines' h ht]
      exact ih _ _ _ t
    | some r =>
      rw [runFrom_succ_of_raised true done n lines h ht, runFrom_succ_of_raised false done n lines' h ht]
      exact ⟨_, _, rfl, rfl, rfl, rfl⟩

/-- Nothing of the last report is read: every case of the step writes the field `outcome` anew (log entry 2). -/
theorem step_withOutcome (s : State) (o : Option StepOutcome) : step { s with outcome := o } = step s := by
  rw [step_eq_cycleStep, step_eq_cycleStep]
  rfl

theorem runFrom_succ_congr {s s' : State} (h : step s = step s') (trace : Bool) (done n : Nat)
    (lines : List TraceLine) : runFrom trace done lines (n + 1) s = runFrom trace done lines (n + 1) s' := by
  simp only [runFrom, h]

/-! ## The statements about runs -/

/-- Settles O51: `runFrom_ends` from step 0. -/
theorem runAlwaysEnds : Obligations.RunAlwaysEnds := by
  intro trace n s
  obtain ⟨rep, hrun, hends⟩ := runFrom_ends trace 0 [] n s
  refine ⟨rep, hrun, ?_⟩
  cases hends with
  | completed hresult => exact .inl (by rw [hresult, Nat.zero_add])
  | stopped i r hi hresult => exact .inr ⟨i + 1, r, by rw [hresult, Nat.zero_add], by omega, by omega⟩

/-- Settles O52: the other way for a run to end has another result. -/
theorem completedRunIsNDefinedSteps : Obligations.CompletedRunIsNDefinedSteps := by
  intro trace n s rep hrun hcompleted
  cases runEnds_of_run hrun with
  | completed _ hfinal hnone => exact ⟨hfinal, hnone⟩
  | stopped i r _ hresult => cases hresult.symm.trans hcompleted

/-- Settles O53: the other way for a run to end has another result. -/
theorem stoppedRunStopsAtFirstReport : Obligations.StoppedRunStopsAtFirstReport := by
  intro trace n s rep i r hrun hstopped
  cases runEnds_of_run hrun with
  | completed hresult => cases hresult.symm.trans hstopped
  | stopped j r' _ hresult hfinal hraised hnone =>
    rw [Nat.zero_add] at hresult
    cases hresult.symm.trans hstopped
    exact ⟨hfinal, hraised, fun k u hk hki => hnone k u hk (Nat.le_of_lt_succ hki)⟩

/-- A run is safe exactly when it completes: one that stops does so at a step that raised. -/
theorem safeRun_iff_noneRaised (n : Nat) (s : State) : SafeRun n s ↔ NoneRaised n s := by
  constructor
  · rintro ⟨t, hrun⟩
    exact (completedRunIsNDefinedSteps false n s _ hrun rfl).2
  · intro hn
    obtain ⟨⟨result, final, console⟩, hrun, hends⟩ := runFrom_ends false 0 [] n s
    cases hends with
    | completed hresult _ _ hlines =>
      obtain rfl : result = .completed n := hresult.trans (by rw [Nat.zero_add])
      obtain rfl : console = [] := List.eq_nil_of_length_eq_zero hlines
      exact ⟨final, hrun⟩
    | stopped i r hi _ hfinal hraised => cases hraised.symm.trans (hn (i + 1) final (by omega) hi hfinal)

/-- Settles O54: not being faulted is having raised nothing. -/
theorem safeRunIffNoStepFaults : Obligations.SafeRunIffNoStepFaults := by
  intro n s
  rw [safeRun_iff_noneRaised]
  exact ⟨fun hn k u hk hkn hu => (not_faulted_iff u).mpr (hn k u hk hkn hu),
    fun hn k u hk hkn hu => (not_faulted_iff u).mp (hn k u hk hkn hu)⟩

/-- Settles O55: the first step of the run is the same, and from there on the two runs are one. -/
theorem resumedRunIgnoresLastReport : Obligations.ResumedRunIgnoresLastReport := fun trace n s o =>
  runFrom_succ_congr (step_withOutcome s o) trace 0 n []

/-- Settles O56: the two runs agree by `runFrom_trace_agrees`, and the lines are counted in `RunEnds`. -/
theorem traceChangesNothing : Obligations.TraceChangesNothing := by
  intro n s on off hon hoff
  have hagree : on.result = off.result ∧ on.final = off.final := by
    obtain ⟨on', off', hon', hoff', hagree⟩ := runFrom_trace_agrees 0 [] [] n s
    cases hon'.symm.trans hon
    cases hoff'.symm.trans hoff
    exact hagree
  have hoffLines : off.console = [] := by
    cases runEnds_of_run hoff with
    | completed _ _ _ hlines => exact List.eq_nil_of_length_eq_zero hlines
    | stopped _ _ _ _ _ _ _ hlines => exact List.eq_nil_of_length_eq_zero hlines
  refine ⟨hagree.1, hagree.2, hoffLines, fun k hk => ?_, fun i r hi => ?_⟩
  · cases runEnds_of_run hon with
    | completed hresult _ _ hlines =>
      cases hresult.symm.trans hk
      exact hlines
    | stopped _ _ _ hresult => cases hresult.symm.trans hk
  · cases runEnds_of_run hon with
    | completed hresult => cases hresult.symm.trans hi
    | stopped j r' _ hresult _ _ _ hlines =>
      cases hresult.symm.trans hi
      exact hlines

/-- Settles O57: every step reports, and `UNIMPL` is the label of the reports that raise. -/
theorem traceLineFields : Obligations.TraceLineFields := by
  intro s t h
  obtain ⟨o, ho, hlines⟩ := emitTrace_of_step h
  refine ⟨traceLabel o, hlines, ?_⟩
  simp only [raised_eq_some_iff, ho]
  cases o <;> simp [traceLabel]

end Sys2Proof.Machine

/-! PROOFS. The loader, the diagnostic writes and the launch (70_reset_and_hazards.md R116 to R118; 10_state.md R27). -/

namespace Sys2Proof.Machine

/-! ## `loadRom` and the loaded image -/

theorem loadRom_of_not_loadable {addr : Word} (h : ¬ loadable addr = true) (m : Memory) (v : Byte) :
    loadRom m addr v = m := by
  rw [loadRom_eq, if_neg h]

/-- ROM after the image is loaded at power-on: the image, and 0 past its end. -/
theorem read_loaded_reset (image : List Byte) {addr : Word} (h : addr.toNat ≤ 0x7FFF) :
    read (loadImage image State.reset).mem addr = image.getD addr.toNat 0 := by
  rw [read_loadImage]
  split
  · rfl
  · rw [List.getD_eq_default _ _ (by omega)]
    exact read_nil addr

theorem loadImage_wf (image : List Byte) {s : State} (h : Memory.wf s.mem = true) :
    Memory.wf (loadImage image s).mem = true := wf_loadFrom 0 h

/-! ## The diagnostic writes -/

theorem readByteRegister_writeByteRegister (q r : ByteRegister) (v : Byte) (s : State) :
    readByteRegister q (writeByteRegister r v s) = if q = r then v else readByteRegister q s := by
  cases r <;> cases q <;> rfl

theorem writeByteRegister_frame (r : ByteRegister) (v : Byte) (s : State) :
    (writeByteRegister r v s).pc = s.pc ∧ (writeByteRegister r v s).sp = s.sp ∧
      (writeByteRegister r v s).mem = s.mem ∧ (writeByteRegister r v s).outcome = s.outcome := by
  cases r <;> exact ⟨rfl, rfl, rfl, rfl⟩

theorem readWordRegister_writeWordRegister (q r : WordRegister) (v : Word) (s : State) :
    readWordRegister q (writeWordRegister r v s) = if q = r then v else readWordRegister q s := by
  cases r <;> cases q <;> rfl

theorem readByteRegister_writeWordRegister (p : ByteRegister) (r : WordRegister) (v : Word) (s : State) :
    readByteRegister p (writeWordRegister r v s) = readByteRegister p s := by
  cases r <;> rfl

theorem writeWordRegister_frame (r : WordRegister) (v : Word) (s : State) :
    (writeWordRegister r v s).mem = s.mem ∧ (writeWordRegister r v s).outcome = s.outcome := by
  cases r <;> exact ⟨rfl, rfl⟩

/-- The three pairs are made of six different registers (10_state.md R13). -/
theorem readPair_writePair (q p : Pair) (v : Word) (s : State) :
    readPair q (writePair p v s) = if q = p then v else readPair q s := by
  by_cases h : q = p
  · subst h
    rw [if_pos rfl, readPair_writePair_same]
  · rw [if_neg h]
    revert h
    cases p <;> cases q <;> simp [readPair, writePair]

theorem writePair_frame (p : Pair) (v : Word) (s : State) :
    (writePair p v s).a = s.a ∧ (writePair p v s).f = s.f ∧ (writePair p v s).ir = s.ir ∧
      (writePair p v s).ie = s.ie ∧ (writePair p v s).pc = s.pc ∧ (writePair p v s).sp = s.sp ∧
      (writePair p v s).mem = s.mem ∧ (writePair p v s).outcome = s.outcome := by
  cases p <;> exact ⟨rfl, rfl, rfl, rfl, rfl, rfl, rfl, rfl⟩

/-- A store where `write` is a no-op changes nothing at all. -/
theorem store_eq_self {addr : Word} {s : State} {v : Byte} (h : write s.mem addr v = s.mem) : s.store addr v = s := by
  rw [State.store, h]

/-- Of the five diagnostic writes only the store reaches memory, through the Address Space's own `write`. -/
theorem applyDiagnostic_writtenFrom (w : Diagnostic) (s : State) : WrittenFrom s.mem (applyDiagnostic w s).mem := by
  cases w with
  | setByte r v => exact .inl (by cases r <;> rfl)
  | setWord r v => exact .inl (by cases r <;> rfl)
  | setPair p v => exact .inl (by cases p <;> rfl)
  | setFlags => exact .inl rfl
  | store addr v => exact .inr ⟨addr, v, rfl⟩

theorem applyPreset_wf (preset : List Diagnostic) {s : State} (h : Memory.wf s.mem = true) :
    Memory.wf (applyPreset preset s).mem = true := by
  induction preset generalizing s with
  | nil => exact h
  | cons w ws ih => exact ih ((applyDiagnostic_writtenFrom w s).wf h)

/-! ## The invariant of a machine with its image loaded -/

/-- What holds once the image is loaded, and what no step changes. -/
structure HoldsImage (image : List Byte) (s : State) : Prop where
  lowFlags : s.f &&& 0x0F = 0
  b : s.b = 0
  c : s.c = 0
  d : s.d = 0
  e : s.e = 0
  ie : s.ie = 0
  wf : Memory.wf s.mem = true
  rom : ∀ addr : Word, addr.toNat ≤ 0x7FFF → read s.mem addr = image.getD addr.toNat 0

theorem holdsImage_loaded (image : List Byte) : HoldsImage image (loadImage image State.reset) :=
  ⟨BitVec.zero_and, rfl, rfl, rfl, rfl, rfl, loadImage_wf image rfl, fun _ => read_loaded_reset image⟩

theorem HoldsImage.step {image : List Byte} {s t : State} (hs : HoldsImage image s) (h : step s = .next t) :
    HoldsImage image t := by
  obtain ⟨hb, hc, hd, he, hie⟩ := noStepWritesBcdeOrIe s t h
  exact ⟨(noStepWritesLowFlagBits s t h).trans hs.lowFlags, hb.trans hs.b, hc.trans hs.c, hd.trans hs.d, he.trans hs.e,
    hie.trans hs.ie, stepKeepsMemoryCanonical s t hs.wf h,
    fun addr haddr => (noStepChangesRom s t h addr haddr).trans (hs.rom addr haddr)⟩

/-! ## The statements -/

/-- Settles O34: the memory after power-on lists no cell. -/
theorem resetMemoryIsCanonical : Obligations.ResetMemoryIsCanonical := rfl

/-- Settles O35: the loader and every diagnostic write keep the canonical form. -/
theorem launchMemoryIsCanonical : Obligations.LaunchMemoryIsCanonical := by
  intro image preset s h
  obtain ⟨bytes, -, rfl⟩ := Option.map_eq_some_iff.mp h
  exact applyPreset_wf preset (loadImage_wf bytes resetMemoryIsCanonical)

/-- Settles O36: `HoldsImage` holds after the load and every step keeps it. -/
theorem reachableFromLoadedReset : Obligations.ReachableFromLoadedReset := by
  intro image n t h
  obtain ⟨hf, hb, hc, hd, he, hie, hwf, hrom⟩ :=
    core_run_preserves (P := HoldsImage image) (fun _ _ hs => hs.step) (holdsImage_loaded image) h
  exact ⟨hf, hb, hc, hd, he, hie, hwf, hrom⟩

/-- Settles O39: the launch state is the loaded one, whose `pc` is 0; `ir` after the step is the byte there, or the next
one, and both are read from the image. -/
theorem firstFetchIsAtZero : Obligations.FirstFetchIsAtZero := by
  intro image s hlaunch
  obtain rfl : loadImage image State.reset = s := Option.some.inj hlaunch
  have hread0 : read (loadImage image State.reset).mem 0 = image.getD 0 0 := read_loaded_reset image (by decide)
  have hread1 : read (loadImage image State.reset).mem 1 = image.getD 1 0 := read_loaded_reset image (by decide)
  refine ⟨rfl, fun t ht => ?_⟩
  have hir : t.ir = if image.getD 0 0 = 0xCB then image.getD 1 0 else image.getD 0 0 := by
    rw [← hread0, ← hread1]
    exact step_ir ht
  exact ⟨fun hne => hir.trans (if_neg hne), fun hcb => hir.trans (if_pos hcb)⟩

/-- Settles O43: the loadable addresses are the two ROM ranges, and `read_loadRom` says what every address reads as. -/
theorem loadRomLaws : Obligations.LoadRomLaws := by
  intro m addr v
  refine ⟨fun h => ?_, fun h => ?_, fun b hb => ?_⟩
  · rw [read_loadRom, if_pos ⟨rfl, (loadable_iff addr).mpr h⟩]
  · exact loadRom_of_not_loadable (fun hl => absurd ((loadable_iff addr).mp hl) (by omega)) m v
  · rw [read_loadRom, if_neg (fun h => hb h.1)]

/-- Settles O45: `0xFFFF` is a read/write address, and the register is no part of memory. -/
theorem ieRegisterIsNotTheCell : Obligations.IeRegisterIsNotTheCell := fun s v =>
  ⟨(writeLaws s.mem 0xFFFF v).1 (by decide), rfl, fun _ hb => read_write_of_ne hb s.mem v, fun _ => rfl⟩

/-- Settles O48: one frame lemma for each kind of register write, `setFlagsSetsEachBit` and `writeLaws` for the other
two. -/
theorem diagnosticWritesChangeWhatTheyName : Obligations.DiagnosticWritesChangeWhatTheyName := by
  refine ⟨fun r q v s => ?_, fun r q v s => ?_, fun p q v s => ?_, setFlagsSetsEachBit, fun addr v s => ?_⟩
  · exact ⟨readByteRegister_writeByteRegister q r v s, writeByteRegister_frame r v s⟩
  · exact ⟨readWordRegister_writeWordRegister q r v s, fun p => readByteRegister_writeWordRegister p r v s,
      writeWordRegister_frame r v s⟩
  · exact ⟨readPair_writePair q p v s, writePair_frame p v s⟩
  · obtain ⟨hstored, hrom, -, hother⟩ := writeLaws s.mem addr v
    exact ⟨hstored, fun h => store_eq_self (hrom h),
      fun h => store_eq_self (write_of_unmapped ((mapped_eq_false_iff addr).mpr h) s.mem v), hother, rfl⟩

end Sys2Proof.Machine

/-! PROOFS. The host's moves in a session (70_reset_and_hazards.md R118, R124; 60_exceptions.md R103). -/

namespace Sys2Proof.Machine

/-! ## What a move can do -/

/-- What a host move can leave: the load before anything else, every other move after it. -/
inductive MoveEffect (x : Session) : HostMove → Session → Prop
  | load (bytes : List Byte) (hphase : x.phase = .poweredOn) :
    MoveEffect x (.load (some bytes)) { x with machine := loadImage bytes x.machine, phase := .loaded }
  | diagnostic (w : Diagnostic) (hready : x.phase.ready = true) :
    MoveEffect x (.diagnostic w) { x with machine := applyDiagnostic w x.machine }
  | setTrace (on : Bool) (hready : x.phase.ready = true) : MoveEffect x (.setTrace on) { x with trace := on }
  | run (n : Nat) (rep : RunReport) (hready : x.phase.ready = true)
    (hrun : Machine.run x.trace n x.machine = .next rep) :
    MoveEffect x (.run n) { x with machine := rep.final, phase := .started, console := x.console ++ rep.console,
                                   lastResult := some rep.result }

theorem Phase.ready_eq_false_iff (p : Phase) : p.ready = false ↔ p = .poweredOn := by
  cases p <;> simp [Phase.ready]

theorem hostMove_load_of_ready {x : Session} (h : x.phase.ready = true) (image : Option (List Byte)) :
    hostMove (.load image) x = none := by
  cases hphase : x.phase with
  | poweredOn => rw [hphase] at h; cases h
  | loaded => simp only [hostMove, hphase]
  | started => simp only [hostMove, hphase]

theorem hostMove_load_none (x : Session) : hostMove (.load none) x = none := by
  cases hphase : x.phase <;> simp only [hostMove, hphase, Option.map_none]

theorem moveEffect_of_hostMove {m : HostMove} {x y : Session} (h : hostMove m x = some y) : MoveEffect x m y := by
  cases hready : x.phase.ready with
  | false =>
    have hphase : x.phase = .poweredOn := (Phase.ready_eq_false_iff x.phase).mp hready
    cases m with
    | load image =>
      cases image with
      | none => cases (hostMove_load_none x).symm.trans h
      | some bytes =>
        simp only [hostMove, hphase] at h
        cases h
        exact .load bytes hphase
    | diagnostic => simp [hostMove, hready] at h
    | setTrace => simp [hostMove, hready] at h
    | run => simp [hostMove, hready] at h
  | true =>
    cases m with
    | load image => cases (hostMove_load_of_ready hready image).symm.trans h
    | diagnostic w =>
      simp only [hostMove, hready, if_true] at h
      cases h
      exact .diagnostic w hready
    | setTrace on =>
      simp only [hostMove, hready, if_true] at h
      cases h
      exact .setTrace on hready
    | run n =>
      obtain ⟨rep, hrun, -⟩ := runFrom_ends x.trace 0 [] n x.machine
      have hrun' : Machine.run x.trace n x.machine = .next rep := hrun
      simp only [hostMove, hready, if_true, hrun'] at h
      cases h
      exact .run n rep hready hrun'

theorem ready_of_hostMove {m : HostMove} {x y : Session} (h : hostMove m x = some y) : y.phase.ready = true := by
  cases moveEffect_of_hostMove h with
  | load => rfl
  | diagnostic _ hready => exact hready
  | setTrace _ hready => exact hready
  | run => rfl

/-! ## ROM in a run -/

/-- A run of any length ends in a state some number of plain steps further, and each of them keeps ROM. -/
theorem read_rom_of_run {trace : Bool} {n : Nat} {s : State} {rep : RunReport} (h : run trace n s = .next rep)
    {addr : Word} (haddr : addr.toNat ≤ 0x7FFF) : read rep.final.mem addr = read s.mem addr := by
  have hkept : ∀ k, Host.Core.run Sys2Proof.core k s = .next rep.final →
      read rep.final.mem addr = read s.mem addr := fun k hk =>
    core_run_preserves (P := fun t => read t.mem addr = read s.mem addr)
      (fun t u ht hu => (noStepChangesRom t u hu addr haddr).trans ht) rfl hk
  cases runEnds_of_run h with
  | completed _ hfinal => exact hkept n hfinal
  | stopped i _ _ _ hfinal => exact hkept (i + 1) hfinal

/-! ## The statements -/

/-- Settles O59: the load is past; a diagnostic write stores nothing in ROM, and no step of a run does. -/
theorem romFixedOnceLoaded : Obligations.RomFixedOnceLoaded := by
  intro m x y hready h
  refine ⟨ready_of_hostMove h, fun addr haddr => ?_⟩
  cases moveEffect_of_hostMove h with
  | load _ hphase => rw [hphase] at hready; cases hready
  | diagnostic w => exact (applyDiagnostic_writtenFrom w x.machine).read_rom haddr
  | setTrace => rfl
  | run _ _ _ hrun => exact read_rom_of_run hrun haddr

/-- Settles O58: every move leaves the session past its load, where the load move does not exist. -/
theorem noSecondLoad : Obligations.NoSecondLoad := fun _ _ _ image h =>
  hostMove_load_of_ready (ready_of_hostMove h) image

/-- Settles O40: there is no image to map over, in the launch and in the load move. -/
theorem noImageNoLaunch : Obligations.NoImageNoLaunch := ⟨fun _ => rfl, hostMove_load_none⟩

end Sys2Proof.Machine

/-! PROOFS. An opcode-table word placed where the next step fetches (log entry 7). -/

namespace Sys2Proof.Machine

/-- Three bytes placed in a window with storage are the three bytes read there: its three addresses are different. -/
theorem read_placeBytes_window (m : Memory) (pc : Word) (b0 b1 b2 : Byte) (h : fetchWindowMapped pc = true) :
    let m' := placeBytes m pc [b0, b1, b2]
    [read m' pc, read m' (pc + 1), read m' (pc + 2)] = [b0, b1, b2] := by
  simp only [fetchWindowMapped, Bool.and_eq_true] at h
  obtain ⟨⟨h0, h1⟩, h2⟩ := h
  have h01 : pc ≠ pc + 1 := by bv_omega
  have h02 : pc ≠ pc + 2 := by bv_omega
  have h12 : pc + 1 ≠ pc + 2 := by bv_omega
  simp only [placeBytes, pc_add_one_add_one, read_place, h0, h1, h2, h01, h02, h12, and_true, if_true, if_false]

theorem fetchWindowMapped_zero : fetchWindowMapped 0 = true := by decide

theorem instructionBytes_placeInstruction (s : State) (b0 b1 b2 : Byte) :
    instructionBytes (placeInstruction [b0, b1, b2] s) = [b0, b1, b2] := by
  unfold placeInstruction
  split
  · exact read_placeBytes_window s.mem s.pc b0 b1 b2 ‹_›
  · exact read_placeBytes_window s.mem 0 b0 b1 b2 fetchWindowMapped_zero

theorem placeInstruction_pc {s : State} (h : fetchWindowMapped s.pc = true) (bytes : List Byte) :
    (placeInstruction bytes s).pc = s.pc := by
  rw [placeInstruction, if_pos h]

theorem placeInstruction_frame (bytes : List Byte) (s : State) :
    placeInstruction bytes s =
      { s with pc := (placeInstruction bytes s).pc, mem := (placeInstruction bytes s).mem } := by
  unfold placeInstruction
  split <;> rfl

theorem decode_of_decodeTableWord {nbits w : Nat} {i : Instr} (h : decodeTableWord nbits w = some i) :
    ∃ rest, decode (tableWordBytes nbits w) = .ok (i, rest) := by
  unfold decodeTableWord at h
  split at h
  next j rest hdec =>
    cases h
    exact ⟨rest, hdec⟩
  next => cases h

/-- Settles O60: the bytes the step reads are the word's own, so it decodes what the word decodes to. -/
theorem placedWordRunsNext : Obligations.PlacedWordRunsNext := by
  intro s nbits w i h
  obtain ⟨rest, hdec⟩ := decode_of_decodeTableWord h
  have hbytes : instructionBytes (s.withFetchWord nbits w) = tableWordBytes nbits w :=
    instructionBytes_placeInstruction s _ _ _
  refine ⟨?_, fun hw => placeInstruction_pc hw _, placeInstruction_frame _ s⟩
  simp only [step, hbytes, hdec]

end Sys2Proof.Machine
